-- ==== Sys2Proof/Word.lean ====
section
/-! DEFINITION. The units that cross the part's links: a byte of a frame (R202) and an audio sample (section 8.1). -/

namespace Sys2Proof

/-- A byte of a console, terminal, roof bus or rear link frame (R202). -/
abbrev Byte := BitVec 8

/-- One 16-bit audio sample, two's complement (section 8.1). -/
abbrev Sample := BitVec 16

/-- An audio block, 32 samples, sample 0 first (section 8.1). The length is checked by WellFormed, not by the type. -/
abbrev Block := List Sample

end Sys2Proof
end

