-- ==== Sys2Proof/Syntax.lean ====
section
/-! DEFINITION. The commands of the part: one constructor for each row of spec/opcode_table.json, with the fields the
row's rule names. A field of a request is the number its bytes hold (R203), so that a code or value out of range can be sent
and is answered BAD_FIELD; a year is the calendar year, 2000 plus the year byte. An enumerated field is its code of
Table 11-1 (log entry 1). -/

namespace Sys2Proof

/-- What ALRM does: it goes inactive (high), it goes active (low), or it has been active for 200 ms without interruption
(R135; log entry 12). -/
inductive AlarmInput where
  | inactive
  | active
  | heldActive
deriving DecidableEq, Repr

/-- What frees the roof bus: a STOP seen on it, or both lines high for 5 ms (R139). -/
inductive BusFreeCause where
  | stopSeen
  | linesHigh
deriving DecidableEq, Repr

/-- What the time without supply did to the retained store: nothing, VBAK failed so that there is no valid header, or a
record was written only in part (R195, R197). -/
inductive StoreDamage where
  | intact
  | vbakFailed
  | partWritten
deriving DecidableEq, Repr

/-- A byte of a UART line, and whether its stop bit was missing (R178; log entry 1). -/
structure RxByte where
  value        : Byte
  framingError : Bool
deriving DecidableEq, Repr

/-- The levels that hold ATTN released: is RESETN high, and is the supply present (R188; log entry 34)? -/
structure SupplyPins where
  resetHigh : Bool
  present   : Bool
deriving DecidableEq, Repr

/-- A supply failure: whether the closing mark was written before the supply died, and the levels it leaves (R188, R195; log
entries 1 and 34). -/
structure SupplyLoss where
  markWritten : Bool
  pins        : SupplyPins
deriving DecidableEq, Repr

/-- A supply failure that falls into a start: after how many of its steps, and what it is like (R195, R198; log entries 1
and 21). -/
structure StartCut where
  steps : Nat
  loss  : SupplyLoss
deriving DecidableEq, Repr

/-- The commands: requests of the console, events of the part's ports, and events one block issues for another to take. -/
inductive Instr where
  -- metering inputs and clock (chapter 1)
  | wheelPulse
  | wholeSecond
  | scheduleEvaluation
  | fenBandChange
  | fenSecondReport
  | displayStaleOnset
  | sauSecondReport
  | sealOpened
  | sealClosed
  | sealInitialSample (high : Bool)
  -- console link requests (chapters 9 and 10)
  | getNotice
  | setNoticeEnables (enables : BitVec 16)
  | identify
  | status
  | restart
  | getTime
  | setTime (year month day hour minute second : Nat)
  -- metering requests (chapter 1)
  | calBegin
  | calEnd (length : Nat)
  | calAbort
  | setK (k : Nat)
  -- tariffs (chapter 2)
  | stageTariffSet (number flagFall stepAmount stepDistance stepWait crossover sharedPercent minimumFare : Nat)
      (label : List Byte)
  | stageTariffRemove (number : Nat)
  | stageBandAdd (days : Byte) (start tariff : Nat)
  | stageBandRemove (days : Byte) (start : Nat)
  | stageHolidayAdd (year month day : Nat)
  | stageHolidayRemove (year month day : Nat)
  | stageExtraSet (code kind amount maxCount : Nat) (label : List Byte)
  | stageExtraRemove (code : Nat)
  | clearStagedEmpty
  | clearStagedCopyActive
  | commitTariffs
  | readTariff (selector number : Nat)
  | readBand (selector index : Nat)
  | readHoliday (selector index : Nat)
  | readExtra (selector code : Nat)
  | readSet (selector : Nat)
  -- hire table (chapter 3)
  | hireStart (slot party source tariff : Nat)
  | hireStop (slot : Nat)
  | hireResume (slot : Nat)
  | setHireTariff (slot source tariff : Nat)
  | addExtra (slot code amount : Nat)
  | removeExtra (slot index : Nat)
  | hireAbandon (slot : Nat)
  | hireRead (slot : Nat)
  -- fare view (chapter 4)
  | composition
  | takeView
  | shown (sequence : Nat)
  | confirmation
  -- settlement and card payment (chapter 5)
  | presentCard (slot : Nat)
  | cancelPayment (slot : Nat)
  | nextAuth
  | verdictApprove (id : Nat) (approval : Option (List Byte))
  | verdictDecline (id : Nat) (approval : Option (List Byte))
  | verdictDefer (id : Nat) (approval : Option (List Byte))
  | authRead (index : Nat)
  | cashTender (slot amount : Nat)
  | accountTender (slot : Nat) (account : List Byte) (amount : Nat)
  | deferredOutcome (id outcome : Nat)
  | deferredRead (index : Nat)
  | authDeadlineExpiry (id : Nat)
  | terminalExchange
  | exchangeUnanswered
  | terminalLinkLost
  | goodReply (frame : List Byte)
  -- shift accounting (chapter 6)
  | shiftOpen (driver seats sharing lagLimit offlineFloor offlineCeiling : Nat)
  | shiftBreak
  | shiftResume
  | shiftClose
  | summaryFetch (selector : Nat)
  | summaryRelease (index : Nat)
  | totalsRead
  -- roof sign (chapter 7)
  | signConfig (availability seats text alert : Nat)
  | signText (text : List Byte)
  | alertClear
  | signHold
  | signRelease
  | lampTest
  | signRead
  | alarmActivation (input : AlarmInput)
  | foreignStart
  | busFree (cause : BusFreeCause)
  | transferBegin
  | transferSuccess
  | transferFailed
  | moduleFault
  | holdOffExpiry (role : Nat)
  | probeTimerExpiry (role : Nat)
  | arbitrationLost
  | arbLimit
  | arbitrationRestart
  | clockStall
  | busRecovery
  | lampTransferEnd
  | lampTransferRetry
  | lampLitEnd
  -- partition intercom (chapter 8)
  | frontCompletion (received : Block)
  | frontTalkButton (pressed : Bool)
  | rearFrame (before : List Byte) (sync : Byte) (after : List Byte)
  | damagedFrame (before : List Byte) (sync : Byte) (after : List Byte)
  | chimeEnd
  | rearLinkLost
  | pinHoldExpiry
  | remoteLoopOn (before : List Byte) (sync : Byte) (after : List Byte)
  | remoteLoopOff (before : List Byte) (sync : Byte) (after : List Byte)
  | announceEnd (before : List Byte) (sync : Byte) (after : List Byte)
  | testSyncLost (before : List Byte) (sync : Byte) (after : List Byte)
  | icFloor (mode : Nat)
  | icLoop (selection : Nat)
  | icTestStart
  | icTestStop
  | icInsertError
  | icHold
  | icConfig (depth offset autoLoop chime : Nat)
  | icRelease
  | icRead
  -- console link events (chapter 9)
  | consoleFrameComplete (bytes : List Byte)
  | lengthFieldFault (bytes : List Byte)
  | frameGap
  | answerEnd
  | unknownRequest (kind : Byte)
  -- supply (chapter 10)
  | supplyFailure (loss : SupplyLoss)
  | supplyReturn (damage : StoreDamage) (crystalStopped : Bool) (cut : Option StartCut)
  | restartStart
  | consoleStartByte (byte : RxByte)
deriving DecidableEq, Repr

end Sys2Proof
end

