-- ==== Sys2Proof/WellFormed.lean ====
section
/-! DEFINITION. Which commands can cross the part's links: each field fits the bytes Table 11-8 gives it, each text its
count, each audio block its 32 samples. A well-formed command may still hold a value out of its rule's range; the part
answers that one. -/

namespace Sys2Proof

/-- A value of one byte (R202). -/
def fits1 (n : Nat) : Bool := n < 256

/-- A value of two bytes (R202). -/
def fits2 (n : Nat) : Bool := n < 65536

/-- An amount of four bytes (R202). -/
def fits4 (n : Nat) : Bool := n < 4294967296

/-- A year that a year byte can hold (R202, R203). -/
def fitsYear (y : Nat) : Bool := 2000 ≤ y && y < 2256

/-- A text of at most n characters (R204). -/
def fitsText (n : Nat) (t : List Byte) : Bool := t.length ≤ n

/-- An approval code is 6 characters, since the body of VERDICT is 2 or 8 bytes (R204). -/
def fitsApproval (a : Option (List Byte)) : Bool :=
  match a with
  | none => true
  | some t => t.length == 6

/-- An audio block has 32 samples (section 8.1). -/
def fitsBlock (b : Block) : Bool := b.length == 32

/-- Can the command cross its link? -/
def WellFormed (i : Instr) : Bool :=
  match i with
  | .setTime y mo d h mi se => fitsYear y && fits1 mo && fits1 d && fits1 h && fits1 mi && fits1 se
  | .calEnd l => fits2 l
  | .setK k => fits2 k
  | .stageTariffSet n ff sa sd sw cr sp mf l =>
      fits1 n && fits4 ff && fits2 sa && fits2 sd && fits2 sw && fits1 cr && fits1 sp && fits4 mf && fitsText 12 l
  | .stageTariffRemove n => fits1 n
  | .stageBandAdd _ st t => fits2 st && fits1 t
  | .stageBandRemove _ st => fits2 st
  | .stageHolidayAdd y mo d => fitsYear y && fits1 mo && fits1 d
  | .stageHolidayRemove y mo d => fitsYear y && fits1 mo && fits1 d
  | .stageExtraSet c k a m l => fits1 c && fits1 k && fits4 a && fits1 m && fitsText 12 l
  | .stageExtraRemove c => fits1 c
  | .readTariff s n => fits1 s && fits1 n
  | .readBand s n => fits1 s && fits1 n
  | .readHoliday s n => fits1 s && fits1 n
  | .readExtra s n => fits1 s && fits1 n
  | .readSet s => fits1 s
  | .hireStart s p so t => fits1 s && fits1 p && fits1 so && fits1 t
  | .hireStop s => fits1 s
  | .hireResume s => fits1 s
  | .setHireTariff s so t => fits1 s && fits1 so && fits1 t
  | .addExtra s c a => fits1 s && fits1 c && fits4 a
  | .removeExtra s n => fits1 s && fits1 n
  | .hireAbandon s => fits1 s
  | .hireRead s => fits1 s
  | .shown q => fits2 q
  | .presentCard s => fits1 s
  | .cancelPayment s => fits1 s
  | .verdictApprove n a => fits1 n && fitsApproval a
  | .verdictDecline n a => fits1 n && fitsApproval a
  | .verdictDefer n a => fits1 n && fitsApproval a
  | .authRead n => fits1 n
  | .cashTender s a => fits1 s && fits4 a
  | .accountTender s t a => fits1 s && fitsText 8 t && fits4 a
  | .deferredOutcome n o => fits1 n && fits1 o
  | .deferredRead n => fits1 n
  | .authDeadlineExpiry n => fits1 n
  | .shiftOpen d s sh l f c => fits4 d && fits1 s && fits1 sh && fits1 l && fits4 f && fits4 c
  | .summaryFetch s => fits1 s
  | .summaryRelease n => fits1 n
  | .signConfig a s t l => fits1 a && fits1 s && fits1 t && fits1 l
  | .signText t => fitsText 24 t
  | .holdOffExpiry r => r < 4
  | .probeTimerExpiry r => r < 4
  | .frontCompletion b => fitsBlock b
  | .icFloor m => fits1 m
  | .icLoop s => fits1 s
  | .icConfig d o a c => fits1 d && fits1 o && fits1 a && fits1 c
  | .wheelPulse | .wholeSecond | .scheduleEvaluation | .fenBandChange | .fenSecondReport | .displayStaleOnset
  | .sauSecondReport | .sealOpened | .sealClosed | .sealInitialSample _ | .getNotice | .setNoticeEnables _ | .identify
  | .status | .restart | .getTime | .calBegin | .calAbort | .clearStagedEmpty | .clearStagedCopyActive | .commitTariffs
  | .composition | .takeView | .confirmation | .nextAuth | .terminalExchange | .exchangeUnanswered | .terminalLinkLost
  | .goodReply _ | .shiftBreak | .shiftResume | .shiftClose | .totalsRead | .alertClear | .signHold | .signRelease
  | .lampTest | .signRead | .alarmActivation _ | .foreignStart | .busFree _ | .transferBegin | .transferSuccess
  | .transferFailed | .moduleFault | .arbitrationLost | .arbLimit | .arbitrationRestart | .clockStall | .busRecovery
  | .lampTransferEnd | .lampTransferRetry | .lampLitEnd | .frontTalkButton _ | .chimeEnd | .rearLinkLost
  | .rearFrame _ _ _ | .damagedFrame _ _ _ | .remoteLoopOn _ _ _ | .remoteLoopOff _ _ _ | .announceEnd _ _ _
  | .testSyncLost _ _ _ | .pinHoldExpiry | .icTestStart | .icTestStop | .icInsertError | .icHold | .icRelease | .icRead
  | .consoleFrameComplete _ | .lengthFieldFault _ | .frameGap | .answerEnd | .unknownRequest _ | .supplyFailure _
  | .supplyReturn _ _ _ | .restartStart | .consoleStartByte _ => true

end Sys2Proof
end

