-- ==== Sys2Proof/Decode.lean ====
section
/-! DEFINITION. The command a word spells by the bits of spec/opcode_table.json. No row of the table gives bits
(98_reader.md: no row with fixed bits or fields), so no word spells a command. The bytes of a console frame are decoded by
the console link's own rules, in Machine/Link.lean. -/

namespace Sys2Proof

/-- No row of the table has a pattern of bits: none for every word. -/
def decodeTableWord (_nbits _w : Nat) : Option Instr := none

end Sys2Proof
end

