-- ==== Sys2Proof/Config.lean ====
section
/-! DEFINITION. What one implementation fixes and the values the manual leaves open. -/

namespace Sys2Proof.Config

/-- The revision letter of the part as its place in A to Z (R191). The manual names no letter: an uninterpreted constant
(log entry 10). -/
opaque revisionLetter : Fin 26

/-- The retained-record format number of the part less 1, so that the number is 1 to 65,535 (R191). The manual names no
number: an uninterpreted constant (log entry 10). -/
opaque formatNumberLess1 : Fin 65535

/-- How many of the 32 sample slots of the front block period have begun when a PIN mute begins (R164). The manual gives
no phase between the front port and the terminal link: the n-th use takes the n-th value (log entry 11). -/
opaque frontSlotsBegun : Nat → Fin 33

end Sys2Proof.Config
end

