-- ==== Sys2Proof/Machine/State.lean ====
section
/-! DEFINITION. The state of the part, block by block as Table 0-1 lists them, all of it plain data, and the state after
reset. Each structure's docstring names the table of the manual it follows. -/

namespace Sys2Proof.Machine

/-! ## Values -/

/-- A calendar date (R11). -/
structure Date where
  year  : Nat
  month : Nat
  day   : Nat
deriving DecidableEq, Repr

/-- A calendar time: date and time of day to the second (R11). -/
structure CalTime where
  date   : Date
  hour   : Nat
  minute : Nat
  second : Nat
deriving DecidableEq, Repr

/-- A weekday, or HOL (R12). -/
inductive DayClass where
  | mon | tue | wed | thu | fri | sat | sun | hol
deriving DecidableEq, Repr

/-- The four slots of the hire table (section 3.1). -/
inductive Slot where
  | s0 | s1 | s2 | s3
deriving DecidableEq, Repr

/-- One value for each slot. -/
structure Four (α : Type) where
  s0 : α
  s1 : α
  s2 : α
  s3 : α
deriving DecidableEq, Repr

/-! ## Console link controller (Table 9-1) -/

/-- The reply statuses (Table 0-4). -/
inductive Status where
  | ok | accepted | busy | notAllowed | badField | unknownRequest | badLength | sealed | conflict | full | notFound | limit
deriving DecidableEq, Repr

/-- Receiver states (R178). -/
inductive RxState where
  | hunt | length | body | check
deriving DecidableEq, Repr

/-- Causes of a link reject frame (R182). -/
inductive RejectCause where
  | lengthField | check | overrun
deriving DecidableEq, Repr

/-- A request frame, its kind and body. -/
structure Frame where
  kind : Byte
  body : List Byte
deriving DecidableEq, Repr

/-- An answer being sent on CTX: a reply with its kind, status and the bytes after the status (R205), the reply of kind 0xFE
to a kind that has no reply kind (R184), or a link reject frame (R182). -/
inductive Answer where
  | reply (kind : Byte) (status : Status) (payload : List Byte)
  | reject (cause : RejectCause) (kind : Option Byte)
deriving DecidableEq, Repr

/-- An owed answer (R182): the request in the receive buffer, or a reject. -/
inductive Owed where
  | request
  | reject (cause : RejectCause) (kind : Option Byte)
deriving DecidableEq, Repr

/-- The fourteen notice kinds in order of priority (Table 9-4). -/
inductive NoticeKind where
  | supply | alert | meter | displayStale | authWaiting | hire0 | hire1 | hire2 | hire3 | terminal | sign | intercom
  | shift | link
deriving DecidableEq, Repr

/-- The record of one notice kind (R186, R187). Bit j - 1 of the reason set stands for the j-th reason of Table 9-4. -/
structure Notice where
  enabled : Bool
  raised  : Bool
  reasons : BitVec 16
  holds   : Bool
deriving DecidableEq, Repr

/-- The notice set (Table 9-1). -/
structure NoticeSet where
  supply       : Notice
  alert        : Notice
  meter        : Notice
  displayStale : Notice
  authWaiting  : Notice
  hire0        : Notice
  hire1        : Notice
  hire2        : Notice
  hire3        : Notice
  terminal     : Notice
  sign         : Notice
  intercom     : Notice
  shift        : Notice
  link         : Notice
deriving DecidableEq, Repr

/-- The loss time, or absence, and the return time of a SUPPLY reason (R186, R201). -/
structure StartTimes where
  loss : Option CalTime
  ret  : CalTime
deriving DecidableEq, Repr

/-- State of the CLC (Table 9-1). `bytes` are the bytes of the frame in assembly after the start byte. -/
structure Clc where
  rx           : RxState
  bytes        : List Byte
  buffer       : Option Frame
  answer       : Option Answer
  owed         : List Owed
  gapCount     : Nat
  overrunCount : Nat
  lengthCount  : Nat
  checkCount   : Nat
  notices      : NoticeSet
  supplyDetail : Option StartTimes
deriving DecidableEq, Repr

/-! ## Metering input unit and calendar clock (Table 1-1) -/

/-- State of the MIU. `sealTaken` says that the level of SEAL has been taken since the start (R9). -/
structure Miu where
  k           : Nat
  kValid      : Bool
  remainder   : Nat
  odometer    : Nat
  secondCount : Nat
  calActive   : Bool
  rawPulses   : Nat
  calCounter  : Nat
  sealOpen    : Bool
  sealTaken   : Bool
  sealCount   : Nat
deriving DecidableEq, Repr

/-- State of the CKU. -/
structure Cku where
  now     : CalTime
  timeSet : Bool
deriving DecidableEq, Repr

/-- Marks of a second report (R3, R4). -/
inductive Mark where
  | normal | implausible | part
deriving DecidableEq, Repr

/-- A second report (R3). -/
structure SecondReport where
  time   : CalTime
  metres : Nat
  mark   : Mark
deriving DecidableEq, Repr

/-! ## Tariff store (Tables 2-1, 2-2) -/

/-- A tariff record (Table 2-2). An empty label is its absence. -/
structure Tariff where
  number        : Nat
  flagFall      : Nat
  stepAmount    : Nat
  stepDistance  : Nat
  stepWait      : Nat
  crossover     : Nat
  sharedPercent : Nat
  minimumFare   : Nat
  label         : List Byte
  sharedStep    : Nat
deriving DecidableEq, Repr

/-- A band: day set (bit 0 MON to bit 7 HOL), start minute, tariff number (section 2.1). -/
structure Band where
  days   : Byte
  start  : Nat
  tariff : Nat
deriving DecidableEq, Repr

/-- Kinds of an extras code (section 2.1). -/
inductive ExtraKind where
  | fixedAmount | variableAmount
deriving DecidableEq, Repr

/-- An extras catalogue entry (section 2.1). -/
structure ExtraEntry where
  code     : Nat
  kind     : ExtraKind
  amount   : Nat
  maxCount : Nat
  label    : List Byte
deriving DecidableEq, Repr

/-- The contents of a tariff set: records ascending by number, bands in band order, holidays ascending, extras ascending by
code (Table 2-1). -/
structure TariffSet where
  tariffs  : List Tariff
  bands    : List Band
  holidays : List Date
  extras   : List ExtraEntry
deriving DecidableEq, Repr

/-- An evaluation point (section 2.4). -/
structure EvalPoint where
  date     : Date
  minute   : Nat
  dayClass : DayClass
deriving DecidableEq, Repr

/-- State of the TFS (Table 2-1). -/
structure Tfs where
  active    : TariffSet
  version   : Nat
  valid     : Bool
  staged    : TariffSet
  point     : EvalPoint
  scheduled : Nat
deriving DecidableEq, Repr

/-! ## Fare engine (Tables 3-1, 3-2) -/

/-- States of a hire; an EMPTY slot holds no record (Table 3-2). -/
inductive HireState where
  | running | suspended | frozen | due | paying
deriving DecidableEq, Repr

/-- Tariff sources. -/
inductive TariffSource where
  | schedule | fixed
deriving DecidableEq, Repr

/-- An entry of a hire's extras list. -/
structure ExtraItem where
  code   : Nat
  amount : Nat
deriving DecidableEq, Repr

/-- Tender methods. -/
inductive Method where
  | cash | account | card | cardDeferred
deriving DecidableEq, Repr

/-- A tender; the account number is empty but for ACCOUNT. -/
structure Tender where
  method  : Method
  amount  : Nat
  tip     : Nat
  account : List Byte
deriving DecidableEq, Repr

/-- The fields of a hire that are present from FROZEN on (Table 3-2). -/
structure Bill where
  topUp     : Nat
  dueTotal  : Nat
  remaining : Nat
deriving DecidableEq, Repr

/-- A hire record (Table 3-2). -/
structure Hire where
  state         : HireState
  number        : Nat
  party         : Nat
  source        : TariffSource
  tariff        : Nat
  pending       : Option Nat
  startTime     : CalTime
  startOdometer : Nat
  fare          : Nat
  charged       : Nat
  forgone       : Nat
  forgoneAmount : Nat
  distSince     : Nat
  waitSince     : Nat
  hiredDistance : Nat
  waitSeconds   : Nat
  extras        : List ExtraItem
  extrasTotal   : Nat
  bill          : Option Bill
  confirmed     : Option Nat
  tenders       : List Tender
deriving DecidableEq, Repr

/-- State of the FEN (Table 3-1). -/
structure Fen where
  slots   : Four (Option Hire)
  counter : Nat
  seats   : Nat
  sharing : Bool
deriving DecidableEq, Repr

/-! ## View buffer unit (Tables 4-1, 4-2) -/

/-- A slot entry of a snapshot (Table 4-2). -/
structure ViewEntry where
  number        : Nat
  state         : HireState
  tariff        : Nat
  fare          : Nat
  extrasTotal   : Nat
  dueTotal      : Option Nat
  remaining     : Option Nat
  hiredDistance : Nat
  waitSeconds   : Nat
  shared        : Bool
deriving DecidableEq, Repr

/-- A snapshot (R64). -/
structure Snapshot where
  seq     : Nat
  time    : CalTime
  entries : Four (Option ViewEntry)
deriving DecidableEq, Repr

/-- The three view buffers. -/
inductive BufName where
  | A | B | C
deriving DecidableEq, Repr

/-- State of the VBU (Table 4-1): the buffers and, for each role, the buffer that holds it. -/
structure Vbu where
  bufA       : Option Snapshot
  bufB       : Option Snapshot
  bufC       : Option Snapshot
  write      : BufName
  ready      : BufName
  console    : BufName
  seq        : Nat
  overwritten : Nat
  lagCount   : Nat
  lagLimit   : Nat
deriving DecidableEq, Repr

/-! ## Settlement unit and terminal link controller (Tables 5-1 to 5-5) -/

/-- States of an authorization entry (Table 5-3). -/
inductive AuthState where
  | queued | handed | superseded | withdrawn
deriving DecidableEq, Repr

/-- An authorization entry (Table 5-3); the deadline is in milliseconds left. -/
structure AuthEntry where
  id       : Nat
  slot     : Slot
  hire     : Nat
  amount   : Nat
  tip      : Nat
  token    : List Byte
  pinUsed  : Bool
  state    : AuthState
  deadline : Nat
deriving DecidableEq, Repr

/-- A deferred entry (Table 5-5). -/
structure Deferred where
  id     : Nat
  shift  : Nat
  hire   : Nat
  amount : Nat
  tip    : Nat
  token  : List Byte
  time   : CalTime
  aged   : Bool
deriving DecidableEq, Repr

/-- State of the STU (Table 5-1). -/
structure Stu where
  queue          : List AuthEntry
  lastId         : Nat
  deferred       : List Deferred
  lastDeferredId : Nat
  floor          : Nat
  ceiling        : Nat
deriving DecidableEq, Repr

/-- State values of the terminal (R80). -/
inductive TermState where
  | idle | showing | pinEntry | processing
deriving DecidableEq, Repr

/-- Results sent to the terminal (Table 5-4). -/
inductive ResultCode where
  | approved | approvedOffline | declined | timedOut | refused | busy
deriving DecidableEq, Repr

/-- Messages of the outgoing slot (R83). -/
inductive TermMsg where
  | showAmount (hire amount maxTip : Nat)
  | result (code : ResultCode) (approval : Option (List Byte))
  | cancel
deriving DecidableEq, Repr

/-- What a session waits for while it is open: a card (SHOWING) or the verdict (AWAITING). -/
inductive PayPhase where
  | showing | awaiting
deriving DecidableEq, Repr

/-- Session states (Table 5-2); PIN carries its resume state. -/
inductive SessionState where
  | inPhase (p : PayPhase)
  | pin (resume : PayPhase)
  | result
deriving DecidableEq, Repr

/-- The terminal session record (Table 5-2). -/
structure Session where
  state   : SessionState
  slot    : Slot
  hire    : Nat
  amount  : Nat
  maxTip  : Nat
  current : Option Nat
deriving DecidableEq, Repr

/-- An exchange in progress (R80): the frame sent on TTX, and whether it carried the message that is in the slot. -/
structure Exchange where
  frame       : List Byte
  carriesSlot : Bool
deriving DecidableEq, Repr

/-- State of the TLC (Table 5-1). -/
structure Tlc where
  up         : Bool
  unanswered : Nat
  lastState  : Option TermState
  slot       : Option TermMsg
  session    : Option Session
  exchange   : Option Exchange
deriving DecidableEq, Repr

/-! ## Shift accounting unit (Tables 6-1, 6-2) -/

/-- Shift states. -/
inductive ShiftState where
  | closed | opened | onBreak
deriving DecidableEq, Repr

/-- The live shift record (Table 6-2); the extras sums are for codes 1 to 8 in order. -/
structure ShiftRecord where
  number           : Nat
  driver           : Nat
  openTime         : CalTime
  openOdometer     : Nat
  closeTime        : Option CalTime
  closeOdometer    : Option Nat
  seats            : Nat
  sharing          : Bool
  lagLimit         : Nat
  floor            : Nat
  ceiling          : Nat
  shiftDistance    : Nat
  hiredDistance    : Nat
  vacantDistance   : Nat
  rejectedDistance : Nat
  hiresClosed      : Nat
  hiresPaid        : Nat
  hiresWrittenOff  : Nat
  faresSum         : Nat
  topUpsSum        : Nat
  extrasSums       : List Nat
  dueSum           : Nat
  cashNet          : Nat
  cardApproved     : Nat
  cardDeferred     : Nat
  account          : Nat
  writtenOff       : Nat
  tipsApproved     : Nat
  tipsDeferred     : Nat
  exposure         : Nat
  stepsCharged     : Nat
  stepsForgone     : Nat
  forgoneAmount    : Nat
  lateSettledCount : Nat
  lateSettledSum   : Nat
  lateFailedCount  : Nat
  lateFailedSum    : Nat
  staleEpisodes    : Nat
  interruptions    : Nat
  interruptedSecs  : Nat
  sealOpenings     : Nat
  breakMinutes     : Nat
  outstandingCount : Nat
  outstandingSum   : Nat
deriving DecidableEq, Repr

/-- A shift summary (R118): the record and the three values copied at the close. -/
structure Summary where
  record     : ShiftRecord
  sealCount  : Nat
  calCounter : Nat
  setVersion : Nat
deriving DecidableEq, Repr

/-- A summary slot (R125); the close order is 1 for the later of two HELD slots and 0 otherwise (log entry 15). -/
inductive SummarySlot where
  | free
  | reserved
  | held (summary : Summary) (fetched : Bool) (order : Nat)
deriving DecidableEq, Repr

/-- State of the SAU (Table 6-1). -/
structure Sau where
  shift  : ShiftState
  number : Nat
  live   : ShiftRecord
  slot0  : SummarySlot
  slot1  : SummarySlot
deriving DecidableEq, Repr

/-! ## Sign unit and roof bus controller (Tables 7-1, 7-2) -/

/-- The four sign roles. -/
inductive Role where
  | availability | seats | text | alert
deriving DecidableEq, Repr

/-- One value for each role. -/
structure Roles (α : Type) where
  availability : α
  seats        : α
  text         : α
  alert        : α
deriving DecidableEq, Repr

/-- Contents of the AVAILABILITY role (Table 7-2). -/
inductive Avail where
  | off | free | shared | hired
deriving DecidableEq, Repr

/-- A sign content (Table 7-2): an availability, a seat count with 0 for dark, a text with no characters for blank, an
alert lamp. -/
inductive Content where
  | avail (a : Avail)
  | seats (n : Nat)
  | text (t : List Byte)
  | alert (on : Bool)
deriving DecidableEq, Repr

/-- An entry of the update list (R138); the hold-off is in milliseconds left, or none. -/
structure UpdateEntry where
  role     : Role
  content  : Content
  tries    : Nat
  probe    : Bool
  holdOff  : Option Nat
  inFlight : Bool
deriving DecidableEq, Repr

/-- State of the SGU (Table 7-1). -/
structure Sgu where
  roles   : Roles (Option Nat)
  latch   : Bool
  text    : List Byte
  label   : List Byte
  desired : Roles Content
  list    : List UpdateEntry
deriving DecidableEq, Repr

/-- Module states. -/
inductive ModState where
  | unknown | ok | faulty
deriving DecidableEq, Repr

/-- Controller states (section 7.8). -/
inductive Ctrl where
  | held | running | holding | lampTest
deriving DecidableEq, Repr

/-- Lamp test phases (R148). -/
inductive LampPhase where
  | allOn | lit | restore
deriving DecidableEq, Repr

/-- A transfer of the RBC's own (R140, R148). -/
inductive Transfer where
  | content (role : Role) (sent : Content)
  | lampAllOn
  | lampNormal
deriving DecidableEq, Repr

/-- State of the RBC (Table 7-1) and of the transfer it makes. -/
structure Rbc where
  acked       : Roles (Option Content)
  modules     : Roles (Option ModState)
  probe       : Roles (Option Nat)
  controller  : Ctrl
  holdPending : Bool
  phase       : Option LampPhase
  busBusy     : Bool
  idleOnly    : Bool
  arbLoss     : Nat
  flight      : Option Transfer
  sending     : List Byte
  arbWait     : Bool
  recovering  : Bool
  lampTries   : Nat
  lampRetry   : Option Nat
  litLeft     : Nat
  lampCut     : Bool
  alrmActive  : Bool
deriving DecidableEq, Repr

/-! ## Partition intercom unit (Tables 8-1, 8-3) -/

/-- Floor modes (R161). -/
inductive FloorMode where
  | closed | duplex | driverPtt
deriving DecidableEq, Repr

/-- An elastic buffer (Table 8-3): the blocks written and not yet read, oldest first, with the positions they stand at. -/
structure ElasticBuffer where
  depth    : Nat
  offset   : Nat
  writePos : Nat
  readPos  : Nat
  blocks   : List Block
  flowing  : Bool
  slips    : Nat
deriving DecidableEq, Repr

/-- The PIN mute (R164); HOLD has its milliseconds left. -/
inductive PinMute where
  | off
  | muted
  | hold (left : Nat)
deriving DecidableEq, Repr

/-- Loop selections (R166). -/
inductive LoopSel where
  | none | frontLocal | rearRemote | dual
deriving DecidableEq, Repr

/-- Link test phases (R169); ANNOUNCE has the frames sent. -/
inductive TestPhase where
  | none
  | announce (sent : Nat)
  | running
deriving DecidableEq, Repr

/-- The checker (R170): SEARCH with the number of bits its register holds, up to 15, or SYNC with the consecutive errored
blocks. The newest bit of a register is bit 0. -/
inductive Checker where
  | search (reg : BitVec 15) (bits : Nat)
  | sync (reg : BitVec 15) (errors : Nat)
deriving DecidableEq, Repr

/-- State of the PIU (Table 8-1). `begun` holds the bytes of a rear frame that has begun, from its sync byte on, and is empty
while the PIU hunts; `rlo` holds the reply frames sent for the bytes last received on RLI, in their order, each of 67 bytes
(R156, R209). -/
structure Piu where
  depth      : Nat
  offset     : Nat
  autoLoop   : Bool
  chimeOn    : Bool
  held       : Bool
  floor      : FloorMode
  talk       : Bool
  rearUp     : Bool
  lastCall   : Bool
  lastStatus : Nat
  damaged    : Nat
  r2f        : ElasticBuffer
  f2r        : ElasticBuffer
  pinMute    : PinMute
  chime      : Option Nat
  loop       : LoopSel
  loopRemote : Bool
  upRun      : Nat
  downRun    : Nat
  phase      : TestPhase
  gen        : BitVec 15
  checker    : Checker
  checked    : Nat
  errored    : Nat
  bitErrors  : Nat
  insertion  : Bool
  loopDown   : Nat
  fdo        : Block
  begun      : List Byte
  rlo        : List (List Byte)
deriving DecidableEq, Repr

/-! ## Supply monitor and retained store (Table 10-1) -/

/-- Supply states. -/
inductive Supply where
  | up | failing | down | starting
deriving DecidableEq, Repr

/-- The format number of the store header (R197, R199): the part's own, 0 (the number of no part), or another part's. -/
inductive StoreFormat where
  | own | zero | other
deriving DecidableEq, Repr

/-- Kinds of start. -/
inductive StartKind where
  | restore | blank | restart
deriving DecidableEq, Repr

/-- The last start (R201). -/
structure LastStart where
  kind  : StartKind
  times : StartTimes
deriving DecidableEq, Repr

/-- State of the SMR (Table 10-1). `restart` is a RESTART that was answered OK and whose start has not begun, with the time
it was taken (R200); `pins` are the levels that hold ATTN released (R188). -/
structure Smr where
  supply    : Supply
  format    : StoreFormat
  closing   : Bool
  agrees    : Bool
  loss      : Option CalTime
  lastStart : LastStart
  restart   : Option CalTime
  pins      : SupplyPins
deriving DecidableEq, Repr

/-! ## Events between blocks -/

/-- An event on its way to the FEN: a second report, a band change, or a confirmation with the entries shown (log entry 4). -/
inductive FenEvent where
  | report (r : SecondReport)
  | bandChange (tariff : Nat)
  | confirm (entries : Four (Option ViewEntry))
deriving DecidableEq, Repr

/-- Events issued by one block and not yet taken by another, in order of issue (log entry 4). -/
structure Transit where
  fen : List FenEvent
  sau : List SecondReport
  tfs : List EvalPoint
  vbu : List (Four (Option ViewEntry))
deriving DecidableEq, Repr

/-! ## The machine -/

/-- The state of the part. `free` numbers the free values used (log entry 11); `pending` is the queue of commands. -/
structure State where
  clc     : Clc
  miu     : Miu
  cku     : Cku
  tfs     : Tfs
  fen     : Fen
  vbu     : Vbu
  stu     : Stu
  tlc     : Tlc
  sau     : Sau
  sgu     : Sgu
  rbc     : Rbc
  piu     : Piu
  smr     : Smr
  transit : Transit
  free    : Nat
  pending : List Instr
deriving DecidableEq, Repr

/-- The manual gives the part no event that stops it (INVENTORY, Faults): no command raises a fault, so there is no
constructor. -/
inductive Fault where
deriving DecidableEq, Repr

/-- Why a command is refused. -/
inductive Refusal where
  /-- Raised by exec for a command that has no meaning yet. Safe: the model stops. No arm of exec raises it now. -/
  | notModelled (mnemonic : String)
deriving DecidableEq, Repr

/-! ## Updates, one for each block -/

def State.setClc (s : State) (b : Clc) : State := { s with clc := b }
def State.setMiu (s : State) (b : Miu) : State := { s with miu := b }
def State.setCku (s : State) (b : Cku) : State := { s with cku := b }
def State.setTfs (s : State) (b : Tfs) : State := { s with tfs := b }
def State.setFen (s : State) (b : Fen) : State := { s with fen := b }
def State.setVbu (s : State) (b : Vbu) : State := { s with vbu := b }
def State.setStu (s : State) (b : Stu) : State := { s with stu := b }
def State.setTlc (s : State) (b : Tlc) : State := { s with tlc := b }
def State.setSau (s : State) (b : Sau) : State := { s with sau := b }
def State.setSgu (s : State) (b : Sgu) : State := { s with sgu := b }
def State.setRbc (s : State) (b : Rbc) : State := { s with rbc := b }
def State.setPiu (s : State) (b : Piu) : State := { s with piu := b }
def State.setSmr (s : State) (b : Smr) : State := { s with smr := b }
def State.setTransit (s : State) (b : Transit) : State := { s with transit := b }
def State.setFree (s : State) (n : Nat) : State := { s with free := n }
def State.setPending (s : State) (q : List Instr) : State := { s with pending := q }

/-! ## Reset -/

/-- 1 January 2000 00:00:00 (R11). -/
def CalTime.epoch : CalTime := ⟨⟨2000, 1, 1⟩, 0, 0, 0⟩

/-- A time field of a record whose every field is 0 (R130; log entry 28). -/
def CalTime.zero : CalTime := ⟨⟨2000, 0, 0⟩, 0, 0, 0⟩

/-- A notice kind after a start: enabled and not raised (R193). -/
def Notice.clear : Notice := { enabled := true, raised := false, reasons := 0, holds := false }

/-- The notice set after a start, before any block raises into it (R193). -/
def NoticeSet.clear : NoticeSet where
  supply := .clear
  alert := .clear
  meter := .clear
  displayStale := .clear
  authWaiting := .clear
  hire0 := .clear
  hire1 := .clear
  hire2 := .clear
  hire3 := .clear
  terminal := .clear
  sign := .clear
  intercom := .clear
  shift := .clear
  link := .clear

/-- A tariff set with nothing in it. -/
def TariffSet.empty : TariffSet := { tariffs := [], bands := [], holidays := [], extras := [] }

/-- The live shift record with every field 0 and the close fields absent (R115, R130). -/
def ShiftRecord.zero : ShiftRecord where
  number := 0
  driver := 0
  openTime := .zero
  openOdometer := 0
  closeTime := none
  closeOdometer := none
  seats := 0
  sharing := false
  lagLimit := 0
  floor := 0
  ceiling := 0
  shiftDistance := 0
  hiredDistance := 0
  vacantDistance := 0
  rejectedDistance := 0
  hiresClosed := 0
  hiresPaid := 0
  hiresWrittenOff := 0
  faresSum := 0
  topUpsSum := 0
  extrasSums := [0, 0, 0, 0, 0, 0, 0, 0]
  dueSum := 0
  cashNet := 0
  cardApproved := 0
  cardDeferred := 0
  account := 0
  writtenOff := 0
  tipsApproved := 0
  tipsDeferred := 0
  exposure := 0
  stepsCharged := 0
  stepsForgone := 0
  forgoneAmount := 0
  lateSettledCount := 0
  lateSettledSum := 0
  lateFailedCount := 0
  lateFailedSum := 0
  staleEpisodes := 0
  interruptions := 0
  interruptedSecs := 0
  sealOpenings := 0
  breakMinutes := 0
  outstandingCount := 0
  outstandingSum := 0

/-- An elastic buffer empty in REFILL (R175, R177). DESIGN CHOICE, unsafe: both positions are 0 at every start, where R177 names
none, and at IC_RELEASE, as R173 says of IC_HOLD (log entry 41). -/
def ElasticBuffer.empty (depth offset : Nat) : ElasticBuffer where
  depth := depth
  offset := offset
  writePos := 0
  readPos := 0
  blocks := []
  flowing := false
  slips := 0

/-- A block of silence (section 8.1). -/
def silence : Block := List.replicate 32 0

/-- The part right after the blank start at the first application of the supply (R196, R199; log entry 8). -/
def State.reset : State where
  clc :=
    { rx := .hunt, bytes := [], buffer := none, answer := none, owed := []
      gapCount := 0, overrunCount := 0, lengthCount := 0, checkCount := 0
      notices :=
        { NoticeSet.clear with
          supply := { enabled := true, raised := true, reasons := 2, holds := false }
          displayStale := { enabled := true, raised := true, reasons := 0, holds := true } }
      supplyDetail := some ⟨none, .epoch⟩ }
  miu :=
    { k := 500, kValid := false, remainder := 0, odometer := 0, secondCount := 0, calActive := false, rawPulses := 0
      calCounter := 0, sealOpen := true, sealTaken := false, sealCount := 0 }
  cku := { now := .epoch, timeSet := false }
  tfs :=
    { active := .empty, version := 0, valid := false, staged := .empty
      point := ⟨⟨2000, 1, 1⟩, 0, .sat⟩, scheduled := 1 }
  fen := { slots := ⟨none, none, none, none⟩, counter := 0, seats := 4, sharing := false }
  vbu :=
    { bufA := some ⟨1, .epoch, ⟨none, none, none, none⟩⟩, bufB := none, bufC := none
      write := .B, ready := .A, console := .C, seq := 1, overwritten := 0, lagCount := 0, lagLimit := 20 }
  stu := { queue := [], lastId := 0, deferred := [], lastDeferredId := 0, floor := 0, ceiling := 0 }
  tlc := { up := false, unanswered := 0, lastState := none, slot := none, session := none, exchange := none }
  sau := { shift := .closed, number := 0, live := .zero, slot0 := .free, slot1 := .free }
  sgu :=
    { roles := ⟨none, none, none, none⟩, latch := false, text := [], label := []
      desired := ⟨.avail .off, .seats 0, .text [], .alert false⟩, list := [] }
  rbc :=
    { acked := ⟨none, none, none, none⟩, modules := ⟨none, none, none, none⟩, probe := ⟨none, none, none, none⟩
      controller := .held, holdPending := false, phase := none, busBusy := true, idleOnly := true, arbLoss := 0
      flight := none, sending := [], arbWait := false, recovering := false, lampTries := 0, lampRetry := none
      litLeft := 0, lampCut := false, alrmActive := false }
  piu :=
    { depth := 8, offset := 4, autoLoop := true, chimeOn := true, held := false, floor := .driverPtt, talk := false
      rearUp := false, lastCall := false, lastStatus := 0, damaged := 0
      r2f := .empty 8 4, f2r := .empty 8 4, pinMute := .hold 2000, chime := none, loop := .none, loopRemote := false
      upRun := 0, downRun := 0, phase := .none, gen := 0x7FFF, checker := .search 0 0, checked := 0, errored := 0
      bitErrors := 0, insertion := false, loopDown := 0, fdo := silence, begun := [], rlo := [] }
  smr :=
    { supply := .up, format := .own, closing := false, agrees := true, loss := none
      lastStart := ⟨.blank, ⟨none, .epoch⟩⟩, restart := none, pins := ⟨true, true⟩ }
  transit := { fen := [], sau := [], tfs := [], vbu := [] }
  free := 0
  pending := []

end Sys2Proof.Machine
end

