-- ==== Sys2Proof/Machine/Bytes.lean ====
section
/-! DEFINITION. Bytes of the part's links: field encoding (R202), the console and terminal CRC (R180), the frame shape of
Tables 11-2, the check bytes of the roof bus (R140) and the rear link (R156), and the codes of Table 11-1. -/

namespace Sys2Proof.Machine

/-! ## Fields (R202) -/

/-- An unsigned number of k bytes, most significant byte first (R202). -/
def be : Nat → Nat → List Byte
  | 0, _ => []
  | k + 1, n => BitVec.ofNat 8 (n / 256 ^ k) :: be k n

/-- A field that is absent: each of its k bytes is 0xFF (R202). -/
def absentField (k : Nat) : List Byte := List.replicate k 0xFF

/-- A field that may be absent and whose range does not reach all ones (R202). -/
def optField (k : Nat) (o : Option Nat) : List Byte :=
  match o with
  | none => absentField k
  | some n => be k n

/-- A field that may be absent and whose range reaches all ones: a presence byte before it (R202). -/
def presentField (k : Nat) (o : Option Nat) : List Byte :=
  match o with
  | none => 0 :: absentField k
  | some n => 1 :: be k n

/-- A flag byte (R202). -/
def flagByte (b : Bool) : List Byte := [if b then 1 else 0]

/-- A counted text (R204). -/
def countedText (t : List Byte) : List Byte := BitVec.ofNat 8 t.length :: t

/-- A date: year less 2000, month, day (R202). -/
def Date.toBytes (d : Date) : List Byte := be 1 (d.year - 2000) ++ be 1 d.month ++ be 1 d.day

/-- A calendar time (R202). -/
def CalTime.toBytes (t : CalTime) : List Byte := t.date.toBytes ++ be 1 t.hour ++ be 1 t.minute ++ be 1 t.second

/-- A calendar time that may be absent (R202). -/
def optTime (o : Option CalTime) : List Byte :=
  match o with
  | none => absentField 6
  | some t => t.toBytes

/-- The number of a field of bytes, most significant first (R202). -/
def beValue (bs : List Byte) : Nat := bs.foldl (fun n b => n * 256 + b.toNat) 0

/-! ## The CRC (R180) -/

/-- One bit of the CRC register: generator 0x1021, most significant bit first. -/
def crcBit (c : BitVec 16) : BitVec 16 := if c.msb then (c <<< 1) ^^^ 0x1021 else c <<< 1

/-- One byte into the CRC register. -/
def crcByte (c : BitVec 16) (b : Byte) : BitVec 16 :=
  crcBit (crcBit (crcBit (crcBit (crcBit (crcBit (crcBit (crcBit (c ^^^ (b.setWidth 16 <<< 8)))))))))

/-- The CRC of a string of bytes, initial value 0xFFFF (R180). -/
def crc16 (bs : List Byte) : BitVec 16 := bs.foldl crcByte 0xFFFF

/-- A frame of the console or terminal link: start byte, length, kind, body, CRC (Table 11-2, R206). -/
def linkFrame (start kind : Byte) (body : List Byte) : List Byte :=
  let counted := be 2 (body.length + 1) ++ kind :: body
  start :: counted ++ be 2 (crc16 counted).toNat

/-! ## Check bytes -/

/-- The two's complement of the sum of bytes, modulo 256 (R140, R156). -/
def checkByte (bs : List Byte) : Byte := -(bs.foldl (· + ·) 0)

/-- The 64 bytes of a block, each sample high byte first (R156). -/
def blockBytes (b : Block) : List Byte := b.flatMap fun x => be 2 x.toNat

/-- The sync byte of the rear link (R209). -/
def rearSync : Byte := 0xA7

/-- The 67 bytes of a frame on the rear link: sync byte, control byte, block, check byte (R156, R209). -/
def rearFrameBytes (control : Byte) (block : Block) : List Byte :=
  rearSync :: control :: (blockBytes block ++ [checkByte (control :: blockBytes block)])

/-- A frame received on the rear link, after its sync byte. -/
structure RearFrame where
  control : Byte
  block   : Block
  check   : Byte
deriving DecidableEq, Repr

/-- The next n samples of a string of bytes, each high byte first, and the bytes after them; none where it is too short
(R156). -/
def samplesOf : Nat → List Byte → Option (Block × List Byte)
  | 0, bs => some ([], bs)
  | n + 1, hi :: lo :: rest => (samplesOf n rest).map fun r => ((hi ++ lo) :: r.1, r.2)
  | _ + 1, _ => none

/-- The frame that bytes beginning with the sync byte form; none where they are fewer than 67 (R156). -/
def rearFrameOf (bytes : List Byte) : Option RearFrame :=
  match bytes with
  | _ :: control :: rest =>
    match samplesOf 32 rest with
    | some (block, check :: _) => some ⟨control, block, check⟩
    | _ => none
  | _ => none

/-- Does the sum of the control byte, the block bytes and the check byte come to 0 (R156)? -/
def rearCheckOk (control : Byte) (block : Block) (check : Byte) : Bool :=
  (control :: blockBytes block).foldl (· + ·) 0 + check == 0

/-! ## Codes of Table 11-1 and Table 11-3 -/

def HireState.code : HireState → Nat
  | .running => 1 | .suspended => 2 | .frozen => 3 | .due => 4 | .paying => 5

def TariffSource.code : TariffSource → Nat
  | .schedule => 0 | .fixed => 1

def ExtraKind.code : ExtraKind → Nat
  | .fixedAmount => 0 | .variableAmount => 1

def Method.code : Method → Nat
  | .cash => 0 | .account => 1 | .card => 2 | .cardDeferred => 3

def ShiftState.code : ShiftState → Nat
  | .closed => 0 | .opened => 1 | .onBreak => 2

def FloorMode.code : FloorMode → Nat
  | .closed => 0 | .duplex => 1 | .driverPtt => 2

def LoopSel.code : LoopSel → Nat
  | .none => 0 | .frontLocal => 1 | .rearRemote => 2 | .dual => 3

def DayClass.code : DayClass → Nat
  | .mon => 0 | .tue => 1 | .wed => 2 | .thu => 3 | .fri => 4 | .sat => 5 | .sun => 6 | .hol => 7

def AuthState.code : AuthState → Nat
  | .queued => 0 | .handed => 1 | .superseded => 2 | .withdrawn => 3

/-- Session state, NONE when absent (Table 11-1, R111). -/
def sessionCode (o : Option Session) : Nat :=
  match o with
  | none => 0
  | some v =>
    match v.state with
    | .inPhase .showing => 1
    | .pin _ => 2
    | .inPhase .awaiting => 3
    | .result => 4

def TermState.code : TermState → Nat
  | .idle => 0 | .showing => 1 | .pinEntry => 2 | .processing => 3

/-- Kind of the outgoing message (Table 11-1). -/
def messageCode (o : Option TermMsg) : Nat :=
  match o with
  | none => 0
  | some (.showAmount _ _ _) => 2
  | some (.result _ _) => 3
  | some .cancel => 4

def SummarySlot.code : SummarySlot → Nat
  | .free => 0 | .reserved => 1 | .held _ _ _ => 2

def Ctrl.code : Ctrl → Nat
  | .held => 0 | .running => 1 | .holding => 2 | .lampTest => 3

def ModState.code : ModState → Nat
  | .unknown => 0 | .ok => 1 | .faulty => 2

def LampPhase.code : LampPhase → Nat
  | .allOn => 0 | .lit => 1 | .restore => 2

def Avail.code : Avail → Nat
  | .off => 0 | .free => 1 | .shared => 2 | .hired => 3

/-- The code of a sign role in an entry of the update list of SIGN_READ, in the order in which R205 sends values per role.
DESIGN CHOICE, unsafe: Table 11-1 gives a role no code (log entry 36). -/
def Role.code : Role → Nat
  | .availability => 0 | .seats => 1 | .text => 2 | .alert => 3

def PinMute.code : PinMute → Nat
  | .off => 0 | .muted => 1 | .hold _ => 2

def TestPhase.code : TestPhase → Nat
  | .none => 0 | .announce _ => 1 | .running => 2

def Checker.code : Checker → Nat
  | .search _ _ => 0 | .sync _ _ => 1

def StartKind.code : StartKind → Nat
  | .restore => 0 | .blank => 1 | .restart => 2

def Status.code : Status → Nat
  | .ok => 0x00 | .accepted => 0x01 | .busy => 0x02 | .notAllowed => 0x03 | .badField => 0x04
  | .unknownRequest => 0x05 | .badLength => 0x06 | .sealed => 0x07 | .conflict => 0x08 | .full => 0x09
  | .notFound => 0x0A | .limit => 0x0B

/-- Causes of a link reject (section 11.2). -/
def RejectCause.code : RejectCause → Nat
  | .lengthField => 1 | .check => 2 | .overrun => 3

/-- The result codes of a RESULT message (R206). -/
def ResultCode.code : ResultCode → Nat
  | .approved => 1 | .approvedOffline => 2 | .declined => 3 | .timedOut => 4 | .refused => 5 | .busy => 6

/-- The terminal frame of a message, or of POLL for an empty slot (R206). -/
def terminalFrame (o : Option TermMsg) : List Byte :=
  match o with
  | none => linkFrame 0xD2 0x01 []
  | some (.showAmount hire amount tip) => linkFrame 0xD2 0x02 (be 2 hire ++ be 4 amount ++ be 4 tip)
  | some (.result c a) => linkFrame 0xD2 0x03 (be 1 c.code ++ a.getD (absentField 6))
  | some .cancel => linkFrame 0xD2 0x04 []

/-- The content bytes a sign content carries on the roof bus (R208, Table 7-2). -/
def Content.busBytes : Content → List Byte
  | .avail a => be 1 a.code
  | .seats n => if n = 0 then [] else be 1 n
  | .text t => t
  | .alert on => flagByte on

/-- A roof bus transfer: address, content kind, length, content, check byte (R140, R208). -/
def busTransfer (address kind : Nat) (content : List Byte) : List Byte :=
  let body := be 1 address ++ be 1 kind ++ be 1 content.length ++ content
  body ++ [checkByte body]

/-- The bytes of an answer on CTX: a reply frame (R184, R205) or a link reject frame (section 11.2). -/
def Answer.frame : Answer → List Byte
  | .reply kind status payload => linkFrame 0xC5 kind (be 1 status.code ++ payload)
  | .reject cause kind => linkFrame 0xC5 0xFF (be 1 cause.code ++ kind.toList)

end Sys2Proof.Machine
end

