-- ==== Sys2Proof/Machine/Calendar.lean ====
section
/-! DEFINITION. The calendar of the clock (R11) and the weekday (R12). -/

namespace Sys2Proof.Machine

/-- February has 29 days in each year divisible by 4 (R11). -/
def leapYear (y : Nat) : Bool := y % 4 == 0

/-- The length of a month in a year (R11). -/
def monthLength (y m : Nat) : Nat :=
  if m = 2 then (if leapYear y then 29 else 28)
  else if m = 4 ∨ m = 6 ∨ m = 9 ∨ m = 11 then 30
  else 31

/-- Is it a date from 1 January 2000 to 31 December 2099 (R14, R21)? -/
def Date.inRange (d : Date) : Bool :=
  2000 ≤ d.year && d.year ≤ 2099 && 1 ≤ d.month && d.month ≤ 12 && 1 ≤ d.day && d.day ≤ monthLength d.year d.month

/-- Is it a date and time of day that the clock can hold (R14)? -/
def CalTime.inRange (t : CalTime) : Bool := t.date.inRange && t.hour ≤ 23 && t.minute ≤ 59 && t.second ≤ 59

/-- The day after a date, with the carries of the calendar; after 31 December 2099, 1 January 2000 (R11). -/
def Date.next (d : Date) : Date :=
  if d.day < monthLength d.year d.month then { d with day := d.day + 1 }
  else if d.month < 12 then ⟨d.year, d.month + 1, 1⟩
  else if d.year < 2099 then ⟨d.year + 1, 1, 1⟩
  else ⟨2000, 1, 1⟩

/-- The time one second later (R11). -/
def CalTime.next (t : CalTime) : CalTime :=
  if t.second < 59 then { t with second := t.second + 1 }
  else if t.minute < 59 then ⟨t.date, t.hour, t.minute + 1, 0⟩
  else if t.hour < 23 then ⟨t.date, t.hour + 1, 0, 0⟩
  else ⟨t.date.next, 0, 0, 0⟩

/-- Days of a year before a month. -/
def daysBeforeMonth (y : Nat) : Nat → Nat
  | 0 => 0
  | 1 => 0
  | m + 2 => daysBeforeMonth y (m + 1) + monthLength y (m + 1)

/-- Days since 1 January 2000. -/
def Date.dayNumber (d : Date) : Nat :=
  365 * (d.year - 2000) + (d.year - 2000 + 3) / 4 + daysBeforeMonth d.year d.month + (d.day - 1)

/-- Seconds since 1 January 2000 00:00:00. -/
def CalTime.seconds (t : CalTime) : Nat :=
  86400 * t.date.dayNumber + 3600 * t.hour + 60 * t.minute + t.second

/-- The weekday of a date, 1 January 2000 being a Saturday (R12). -/
def Date.weekday (d : Date) : DayClass :=
  match d.dayNumber % 7 with
  | 0 => .sat | 1 => .sun | 2 => .mon | 3 => .tue | 4 => .wed | 5 => .thu | _ => .fri

/-- Strictly earlier in the calendar. -/
def Date.before (a b : Date) : Bool :=
  a.year < b.year || (a.year == b.year && (a.month < b.month || (a.month == b.month && a.day < b.day)))

/-- The minute of the day (R13). -/
def CalTime.minuteOfDay (t : CalTime) : Nat := 60 * t.hour + t.minute

end Sys2Proof.Machine
end

