-- ==== Sys2Proof/Machine/Ops.lean ====
section
/-! DEFINITION. The operations the meanings share: values kept one for each slot, role and notice kind, saturating counts,
replies (R184), notices (R186, R187), postings to the shift record (section 6.3), and which commands the part takes in which
supply state (R194, R200). -/

namespace Sys2Proof.Machine

/-! ## One value for each slot -/

def Slot.all : List Slot := [.s0, .s1, .s2, .s3]

def Slot.toNat : Slot → Nat
  | .s0 => 0 | .s1 => 1 | .s2 => 2 | .s3 => 3

def Four.get {α : Type} (f : Four α) : Slot → α
  | .s0 => f.s0 | .s1 => f.s1 | .s2 => f.s2 | .s3 => f.s3

def Four.set {α : Type} (f : Four α) (k : Slot) (v : α) : Four α :=
  match k with
  | .s0 => { f with s0 := v } | .s1 => { f with s1 := v } | .s2 => { f with s2 := v } | .s3 => { f with s3 := v }

def Four.map {α β : Type} (g : α → β) (f : Four α) : Four β := ⟨g f.s0, g f.s1, g f.s2, g f.s3⟩

def Four.toList {α : Type} (f : Four α) : List α := [f.s0, f.s1, f.s2, f.s3]

/-! ## One value for each sign role -/

/-- The roles in the order AVAILABILITY, SEATS, TEXT, ALERT (R131). -/
def Role.all : List Role := [.availability, .seats, .text, .alert]

def Roles.get {α : Type} (f : Roles α) : Role → α
  | .availability => f.availability | .seats => f.seats | .text => f.text | .alert => f.alert

def Roles.set {α : Type} (f : Roles α) (k : Role) (v : α) : Roles α :=
  match k with
  | .availability => { f with availability := v }
  | .seats => { f with seats := v }
  | .text => { f with text := v }
  | .alert => { f with alert := v }

def Roles.map {α β : Type} (g : α → β) (f : Roles α) : Roles β :=
  ⟨g f.availability, g f.seats, g f.text, g f.alert⟩

def Roles.toList {α : Type} (f : Roles α) : List α := [f.availability, f.seats, f.text, f.alert]

/-! ## Counts (00, section 6) -/

/-- A count that saturates at its maximum. -/
def satAdd (max a b : Nat) : Nat := min (a + b) max

/-- The maximum of a 16-bit count. -/
def max16 : Nat := 65535
/-- The maximum of a 32-bit count. -/
def max32 : Nat := 4294967295
/-- The greatest single amount. -/
def maxAmount : Nat := 99999999
/-- The greatest metered fare (Table 3-2). -/
def maxFare : Nat := 99000000
/-- The maximum of a wide sum (section 6.2). -/
def maxSum : Nat := 999999999999
/-- The maximum of a wide distance (section 6.2). -/
def maxDistance : Nat := 281474976710655

/-- The next identifier of an authorization or deferred entry: the first value not used, searching from the last issued plus
one and wrapping from 255 to 1 (R93, R106). The fuel covers every value once. -/
def freeId (used : List Nat) : Nat → Nat → Nat
  | 0, n => n
  | fuel + 1, n => if used.contains n then freeId used fuel (if n ≥ 255 then 1 else n + 1) else n

/-- The identifier after the last one issued (R93, R106). -/
def nextId (used : List Nat) (last : Nat) : Nat := freeId used 255 (if last ≥ 255 then 1 else last + 1)

/-! ## The notice set (R186, R187) -/

def NoticeKind.all : List NoticeKind :=
  [.supply, .alert, .meter, .displayStale, .authWaiting, .hire0, .hire1, .hire2, .hire3, .terminal, .sign, .intercom,
   .shift, .link]

/-- The priority and kind code of a kind, 1 to 14 (Table 9-4). -/
def NoticeKind.code : NoticeKind → Nat
  | .supply => 1 | .alert => 2 | .meter => 3 | .displayStale => 4 | .authWaiting => 5 | .hire0 => 6 | .hire1 => 7
  | .hire2 => 8 | .hire3 => 9 | .terminal => 10 | .sign => 11 | .intercom => 12 | .shift => 13 | .link => 14

/-- The condition kinds (Table 9-4). -/
def NoticeKind.isCondition : NoticeKind → Bool
  | .alert | .displayStale | .authWaiting => true
  | _ => false

def NoticeSet.get (n : NoticeSet) : NoticeKind → Notice
  | .supply => n.supply | .alert => n.alert | .meter => n.meter | .displayStale => n.displayStale
  | .authWaiting => n.authWaiting | .hire0 => n.hire0 | .hire1 => n.hire1 | .hire2 => n.hire2 | .hire3 => n.hire3
  | .terminal => n.terminal | .sign => n.sign | .intercom => n.intercom | .shift => n.shift | .link => n.link

def NoticeSet.set (n : NoticeSet) (k : NoticeKind) (v : Notice) : NoticeSet :=
  match k with
  | .supply => { n with supply := v } | .alert => { n with alert := v } | .meter => { n with meter := v }
  | .displayStale => { n with displayStale := v } | .authWaiting => { n with authWaiting := v }
  | .hire0 => { n with hire0 := v } | .hire1 => { n with hire1 := v } | .hire2 => { n with hire2 := v }
  | .hire3 => { n with hire3 := v } | .terminal => { n with terminal := v } | .sign => { n with sign := v }
  | .intercom => { n with intercom := v } | .shift => { n with shift := v } | .link => { n with link := v }

/-- The reasons of Table 9-4. -/
inductive Reason where
  | restored | storeLost | restarted
  | implausible | sealOpened | sealClosed | calDone | calAborted | bandChange
  | suspended (k : Slot) | tariffSwitched (k : Slot) | dueReached (k : Slot) | paymentFailed (k : Slot)
  | closedPaid (k : Slot) | closedUnpaid (k : Slot) | stepsForgone (k : Slot)
  | terminalLost | terminalBack | tenderCancelled | tenderRefused | resultUndelivered
  | moduleFault | moduleRecovered | arbLimit | stall | lampTestDone | lampTestCut
  | slip | rearLost | rearBack | rearCall | loopEnded | remoteLoopOn | remoteLoopOff | testSync | testSyncLost
  | summaryReady | deferredAged
  | gap | overrun
deriving DecidableEq, Repr

/-- The notice kind of a hire slot. -/
def hireKind : Slot → NoticeKind
  | .s0 => .hire0 | .s1 => .hire1 | .s2 => .hire2 | .s3 => .hire3

/-- The kind a reason belongs to (Table 9-4). -/
def Reason.kind : Reason → NoticeKind
  | .restored | .storeLost | .restarted => .supply
  | .implausible | .sealOpened | .sealClosed | .calDone | .calAborted | .bandChange => .meter
  | .suspended k | .tariffSwitched k | .dueReached k | .paymentFailed k | .closedPaid k | .closedUnpaid k
  | .stepsForgone k => hireKind k
  | .terminalLost | .terminalBack | .tenderCancelled | .tenderRefused | .resultUndelivered => .terminal
  | .moduleFault | .moduleRecovered | .arbLimit | .stall | .lampTestDone | .lampTestCut => .sign
  | .slip | .rearLost | .rearBack | .rearCall | .loopEnded | .remoteLoopOn | .remoteLoopOff | .testSync
  | .testSyncLost => .intercom
  | .summaryReady | .deferredAged => .shift
  | .gap | .overrun => .link

/-- The bit of a reason in its kind's reason set: the place in which Table 9-4 lists it (section 11.3). -/
def Reason.bit : Reason → Nat
  | .restored => 0 | .storeLost => 1 | .restarted => 2
  | .implausible => 0 | .sealOpened => 1 | .sealClosed => 2 | .calDone => 3 | .calAborted => 4 | .bandChange => 5
  | .suspended _ => 0 | .tariffSwitched _ => 1 | .dueReached _ => 2 | .paymentFailed _ => 3 | .closedPaid _ => 4
  | .closedUnpaid _ => 5 | .stepsForgone _ => 6
  | .terminalLost => 0 | .terminalBack => 1 | .tenderCancelled => 2 | .tenderRefused => 3 | .resultUndelivered => 4
  | .moduleFault => 0 | .moduleRecovered => 1 | .arbLimit => 2 | .stall => 3 | .lampTestDone => 4 | .lampTestCut => 5
  | .slip => 0 | .rearLost => 1 | .rearBack => 2 | .rearCall => 3 | .loopEnded => 4 | .remoteLoopOn => 5
  | .remoteLoopOff => 6 | .testSync => 7 | .testSyncLost => 8
  | .summaryReady => 0 | .deferredAged => 1
  | .gap => 0 | .overrun => 1

/-- A reason joins the set of an enabled kind and raises it (R186). -/
def Notice.addReason (n : Notice) (bit : Nat) : Notice :=
  if n.enabled then { n with raised := true, reasons := n.reasons ||| (1#16 <<< bit) } else n

/-- A condition begins (R187). -/
def Notice.begins (n : Notice) : Notice := { n with holds := true, raised := n.raised || n.enabled }

/-- A condition ends (R187). -/
def Notice.ends (n : Notice) : Notice := { n with holds := false }

/-- The notice record of one kind, replaced. -/
def State.setNotice (s : State) (k : NoticeKind) (v : Notice) : State :=
  s.setClc { s.clc with notices := s.clc.notices.set k v }

/-- A block adds a reason (R186). -/
def raise (r : Reason) (s : State) : State :=
  s.setNotice r.kind ((s.clc.notices.get r.kind).addReason r.bit)

/-- A block reports that a condition begins (R187). -/
def condBegin (k : NoticeKind) (s : State) : State := s.setNotice k (s.clc.notices.get k).begins

/-- A block reports that a condition ends (R187). -/
def condEnd (k : NoticeKind) (s : State) : State := s.setNotice k (s.clc.notices.get k).ends

/-! ## Which commands the part takes -/

/-- Do the blocks take events? After a supply failure they do not until the next start (R194). -/
def powered (s : State) : Bool := s.smr.supply == .up || s.smr.supply == .starting

/-- Does the part take requests? Not while a RESTART waits for the end of its reply or starts: the frames received then are
discarded without answers (R193, R200). -/
def listening (s : State) : Bool := s.smr.supply == .up && s.smr.restart.isNone

/-- An event of a port or between blocks: taken while the blocks run, otherwise nothing (R194). -/
def event (f : State → State) (s : State) : Host.Outcome State Fault Refusal :=
  .next (if powered s then f s else s)

/-! ## Replies (R184) -/

/-- What the owning block returns for a request: the status, the bytes after it, and the state. -/
structure Served where
  status  : Status
  payload : List Byte
  state   : State
deriving DecidableEq, Repr

/-- The request was carried out. -/
def served (payload : List Byte) (s : State) : Served := ⟨.ok, payload, s⟩

/-- A long operation has begun. -/
def begun (s : State) : Served := ⟨.accepted, [], s⟩

/-- A refused request leaves the state of the part as it was (R184). -/
def refuse (st : Status) (s : State) : Served := ⟨st, [], s⟩

/-- The answer in progress becomes the one given (R182). -/
def State.setAnswer (s : State) (a : Option Answer) : State := s.setClc { s.clc with answer := a }

/-- The owning block carries the request out, and its reply becomes the answer in progress (R182, R184). -/
def answerWith (kind : Byte) (f : State → Served) (s : State) : State :=
  (f s).state.setAnswer (some (.reply (kind + 0x80) (f s).status (f s).payload))

/-- A request taken (R184; log entry 7). -/
def request (kind : Byte) (f : State → Served) (s : State) : Host.Outcome State Fault Refusal :=
  .next (if listening s then answerWith kind f s else s)

/-! ## Postings to the shift record (section 6.3) -/

/-- A posting is added while the shift is OPEN or on BREAK and discarded while it is CLOSED (section 6.3). -/
def post (f : ShiftRecord → ShiftRecord) (s : State) : State :=
  if s.sau.shift = .closed then s else s.setSau { s.sau with live := f s.sau.live }

/-! ## Events issued to another block -/

def toFen (e : FenEvent) (s : State) : State := s.setTransit { s.transit with fen := s.transit.fen ++ [e] }

/-- A second report goes to the FEN and to the SAU (R3). -/
def issueReport (r : SecondReport) (s : State) : State :=
  s.setTransit { s.transit with fen := s.transit.fen ++ [.report r], sau := s.transit.sau ++ [r] }

end Sys2Proof.Machine
end

