-- ==== Sys2Proof/Machine/Operands.lean ====
section
/-! DEFINITION. The operand forms: how a field of a command is read, and the ranges its rule gives (R203, R204). -/

namespace Sys2Proof.Machine

/-- A slot number 0 to 3 (R33). -/
def slotOf : Nat → Option Slot
  | 0 => some .s0 | 1 => some .s1 | 2 => some .s2 | 3 => some .s3 | _ => none

/-- A role by its place, 0 to 3 (R131). -/
def roleOf : Nat → Option Role
  | 0 => some .availability | 1 => some .seats | 2 => some .text | 3 => some .alert | _ => none

/-- A value from lo to hi, both included. -/
def within (lo hi n : Nat) : Bool := lo ≤ n && n ≤ hi

/-- A printable character is one of the codes 0x20 to 0x7E (section 2.1). -/
def printable (c : Byte) : Bool := within 0x20 0x7E c.toNat

/-- A digit. -/
def digit (c : Byte) : Bool := within 0x30 0x39 c.toNat

/-- A label: at most 12 printable characters, none for its absence (section 2.1). -/
def labelOk (t : List Byte) : Bool := t.length ≤ 12 && t.all printable

/-- An account number of 1 to 8 digits (R105). -/
def accountOk (t : List Byte) : Bool := within 1 8 t.length && t.all digit

/-- A tariff source by its code (Table 11-1). -/
def sourceOf : Nat → Option TariffSource
  | 0 => some .schedule | 1 => some .fixed | _ => none

/-- An extras kind by its code (Table 11-1). -/
def extraKindOf : Nat → Option ExtraKind
  | 0 => some .fixedAmount | 1 => some .variableAmount | _ => none

/-- A flag of a request (R203). -/
def flagOf : Nat → Option Bool
  | 0 => some false | 1 => some true | _ => none

/-- A floor mode by its code (Table 11-1). -/
def floorOf : Nat → Option FloorMode
  | 0 => some .closed | 1 => some .duplex | 2 => some .driverPtt | _ => none

/-- A loop selection by its code (Table 11-1). -/
def loopOf : Nat → Option LoopSel
  | 0 => some .none | 1 => some .frontLocal | 2 => some .rearRemote | 3 => some .dual | _ => none

/-- A module address: 1 to 63, or 0xFF for absence (Table 11-1, R203). The inner option is the absence. -/
def addressOf (n : Nat) : Option (Option Nat) :=
  if n = 0xFF then some none else if within 1 63 n then some (some n) else none

/-- A terminal state by its code (R206). -/
def termStateOf : Nat → Option TermState
  | 0 => some .idle | 1 => some .showing | 2 => some .pinEntry | 3 => some .processing | _ => none

/-- Does a day set hold a day class (section 2.1)? -/
def dayIn (days : Byte) (c : DayClass) : Bool := days.getLsbD c.code

/-- Two day sets with a day class in common (section 2.1). -/
def daysOverlap (a b : Byte) : Bool := a &&& b != 0

/-- The first day class of a day set in the order MON to HOL, 8 for an empty set (section 2.1). -/
def firstDay (days : Byte) : Nat := ((List.range 8).find? fun j => days.getLsbD j).getD 8

/-- No two roles carry the same address (R131). -/
def addressesDistinct (l : List (Option Nat)) : Bool :=
  let present := l.filterMap id
  decide present.Nodup

end Sys2Proof.Machine
end

