-- ==== Sys2Proof/Machine/Flags.lean ====
section
/-! DEFINITION. What follows from State: the conditions behind the condition notices, occupancy and seats, ATTN, the day
class, the gates and the warn flag. -/

namespace Sys2Proof.Machine

/-! ## Fares -/

/-- The active set; while it is invalid it holds nothing (R26, R30). -/
def activeSet (s : State) : TariffSet := if s.tfs.valid then s.tfs.active else .empty

/-- The record of a tariff number in a set (section 2.1). -/
def TariffSet.tariff? (t : TariffSet) (n : Nat) : Option Tariff := t.tariffs.find? fun r => r.number == n

/-- The catalogue entry of a code in a set (section 2.1). -/
def TariffSet.extra? (t : TariffSet) (c : Nat) : Option ExtraEntry := t.extras.find? fun e => e.code == c

/-- The day class of a date: HOL if it is a holiday of the active set, otherwise the weekday (R12). -/
def dayClass (s : State) (d : Date) : DayClass := if (activeSet s).holidays.contains d then .hol else d.weekday

/-- The evaluation point of the clock's present time (R14, R32). -/
def presentPoint (s : State) : EvalPoint :=
  ⟨s.cku.now.date, s.cku.now.minuteOfDay, dayClass s s.cku.now.date⟩

/-- The tariff a set names at an evaluation point (R26). -/
def scheduledAt (t : TariffSet) (p : EvalPoint) : Nat :=
  match (t.bands.filter fun b => dayIn b.days p.dayClass && b.start ≤ p.minute).getLast? with
  | some b => b.tariff
  | none => 1

/-- The label of the scheduled tariff, empty for its absence (R29). -/
def scheduledLabel (s : State) : List Byte :=
  match (activeSet s).tariff? s.tfs.scheduled with
  | some t => t.label
  | none => []

/-! ## The hire table -/

/-- The hire of a slot. -/
def State.hire (s : State) (k : Slot) : Option Hire := s.fen.slots.get k

/-- A slot's hire replaced, or the slot emptied. -/
def State.setHire (s : State) (k : Slot) (h : Option Hire) : State :=
  s.setFen { s.fen with slots := s.fen.slots.set k h }

/-- The state of a slot's hire; none when the slot is EMPTY. -/
def State.hireState (s : State) (k : Slot) : Option HireState := (s.hire k).map (·.state)

/-- Some hire slot is non-EMPTY: the occupancy of the PIU (R167) and the SGU (R133). -/
def occupied (s : State) : Bool := s.fen.slots.toList.any (·.isSome)

/-- Every hire slot is EMPTY. -/
def cabEmpty (s : State) : Bool := !occupied s

/-- The number of RUNNING hires (R41). -/
def runningCount (f : Four (Option Hire)) : Nat :=
  (f.toList.filter fun o => o.any fun h => h.state == .running).length

/-- Seats taken by the hires of the table, whatever their states (R34). -/
def seatsTaken (f : Four (Option Hire)) : Nat :=
  (f.toList.map fun o => (o.map (·.party)).getD 0).sum

/-- The free seat count (R34). -/
def freeSeats (s : State) : Nat := s.fen.seats - seatsTaken s.fen.slots

/-! ## Conditions and ATTN -/

/-- The DISPLAY_STALE condition holds while the display lag count is 0 (R74). -/
def displayStale (s : State) : Bool := s.vbu.lagCount == 0

/-- The AUTH_WAITING condition holds while a QUEUED entry exists (R94). -/
def authWaiting (s : State) : Bool := s.stu.queue.any fun e => e.state == .queued

/-- The kinds that are raised, as an enable-set word (Table 11-1). -/
def raisedWord (n : NoticeSet) : BitVec 16 :=
  (NoticeKind.all.map fun k => if (n.get k).raised then 1#16 <<< (k.code - 1) else 0).foldl (· ||| ·) 0

/-- The kinds that are enabled, as an enable-set word (Table 11-1). -/
def enabledWord (n : NoticeSet) : BitVec 16 :=
  (NoticeKind.all.map fun k => if (n.get k).enabled then 1#16 <<< (k.code - 1) else 0).foldl (· ||| ·) 0

/-- ATTN is driven low while a kind is raised, and released while RESETN is low or the supply absent, in every supply state:
in a short dip of PFAIL the raised flags that stand keep it low (R188; log entry 34). -/
def attnLow (s : State) : Bool :=
  s.smr.pins.resetHigh && s.smr.pins.present && NoticeKind.all.any fun k => (s.clc.notices.get k).raised

/-! ## The shift -/

/-- The shift is OPEN or on BREAK. -/
def shiftRuns (s : State) : Bool := s.sau.shift != .closed

/-- A HELD summary slot. -/
def SummarySlot.isHeld : SummarySlot → Bool
  | .held _ _ _ => true
  | _ => false

/-! ## The intercom -/

/-- The level of an elastic buffer: blocks written and not yet read (section 8.2). -/
def ElasticBuffer.level (b : ElasticBuffer) : Nat := b.blocks.length

/-- The warn flag (Table 8-3). -/
def ElasticBuffer.warn (b : ElasticBuffer) : Bool := b.level ≤ 1 || b.depth - 1 ≤ b.level

/-- A PIN mute is in force: MUTED or HOLD (R164). -/
def PinMute.inForce (m : PinMute) : Bool := m != .off

/-- The link test is in ANNOUNCE or RUNNING. -/
def TestPhase.active (p : TestPhase) : Bool := p != .none

/-- The rear-to-front gate (R162, Table 8-4). -/
def rearToFrontOpen (s : State) : Bool :=
  (s.piu.floor == .duplex || (s.piu.floor == .driverPtt && !s.piu.talk)) && !s.piu.pinMute.inForce && occupied s
    && s.piu.loop == .none && !s.piu.phase.active

/-- The front-to-rear gate (R163). -/
def frontToRearOpen (s : State) : Bool :=
  s.piu.floor == .duplex || (s.piu.floor == .driverPtt && s.piu.talk)

end Sys2Proof.Machine
end

