-- ==== Sys2Proof/Machine/IntercomOps.lean ====
section
/-! DEFINITION. Operations of the intercom that several commands share: the elastic buffers (R158 to R160), the test
generator and checker (R169, R170), the PIN mute (R164), loops (R167), the choice of blocks (R162, R163) and its start
(R177). -/

namespace Sys2Proof.Machine

/-! ## Elastic buffers -/

/-- What a buffer event leaves, and whether it was a slip. -/
structure BufferStep where
  buffer : ElasticBuffer
  block  : Block
  slip   : Bool
deriving DecidableEq, Repr

/-- A block written at the write position (R158). -/
def ElasticBuffer.write (b : ElasticBuffer) (x : Block) : ElasticBuffer :=
  { b with
    writePos := (b.writePos + 1) % b.depth
    blocks := b.blocks ++ [x]
    flowing := b.flowing || b.level + 1 == b.offset }

/-- The oldest blocks discarded until the level is the start offset (R158). -/
def ElasticBuffer.discard (b : ElasticBuffer) : ElasticBuffer :=
  { b with readPos := (b.readPos + (b.level - b.offset)) % b.depth, blocks := b.blocks.drop (b.level - b.offset) }

/-- A slip counted (R160). -/
def ElasticBuffer.countSlip (b : ElasticBuffer) : ElasticBuffer := { b with slips := satAdd max16 b.slips 1 }

/-- A block arrives (R158). -/
def ElasticBuffer.arrive (b : ElasticBuffer) (x : Block) : BufferStep :=
  if b.level < b.depth then ⟨b.write x, x, false⟩ else ⟨(b.discard.write x).countSlip, x, true⟩

/-- A block is read (R159). -/
def ElasticBuffer.read (b : ElasticBuffer) : BufferStep :=
  if b.flowing then
    match b.blocks with
    | x :: rest => ⟨{ b with readPos := (b.readPos + 1) % b.depth, blocks := rest }, x, false⟩
    | [] => ⟨{ b with flowing := false }.countSlip, silence, true⟩
  else ⟨b, silence, false⟩

/-- A buffer emptied and set to REFILL, with no slip counted (R157, R160). DESIGN CHOICE, unsafe: both positions become
0 at a rear loss and at a supply failure too, as R173 says of IC_HOLD (log entry 41). -/
def ElasticBuffer.drain (b : ElasticBuffer) : ElasticBuffer :=
  { b with writePos := 0, readPos := 0, blocks := [], flowing := false }

/-- SLIP is raised when an event slipped (R160). -/
def raiseSlip (slip : Bool) (s : State) : State := if slip then raise .slip s else s

/-! ## The test sequence (R169, R170) -/

/-- The next bit of the sequence: the exclusive-or of the bits 15 and 14 places back (R169). -/
def prbsBit (r : BitVec 15) : Bool := r.getLsbD 14 ^^ r.getLsbD 13

/-- A bit enters the register; the newest is bit 0. -/
def shiftIn (r : BitVec 15) (b : Bool) : BitVec 15 := (r <<< 1) ||| (if b then 1 else 0)

/-- The next n bits of the sequence as a number, first bit most significant, and the register after them. -/
def genBits : Nat → Nat → BitVec 15 → Nat × BitVec 15
  | 0, v, r => (v, r)
  | n + 1, v, r => genBits n (2 * v + (if prbsBit r then 1 else 0)) (shiftIn r (prbsBit r))

/-- The next n samples of the sequence and the register after them (R169). -/
def genSamples : Nat → BitVec 15 → Block × BitVec 15
  | 0, r => ([], r)
  | n + 1, r =>
    let w := genBits 16 0 r
    let t := genSamples n w.2
    (BitVec.ofNat 16 w.1 :: t.1, t.2)

/-- The bits of a block, sample 0 first and each sample most significant bit first (R169). -/
def blockBits (b : Block) : List Bool := b.flatMap fun x => (List.range 16).map fun j => x.getMsbD j

/-- A search over received bits: the register, the bits it holds, whether every bit compared was as predicted, and whether a
bit was 1. -/
structure SearchRun where
  reg     : BitVec 15
  bits    : Nat
  matched : Bool
  ones    : Bool
deriving DecidableEq, Repr

/-- One received bit in SEARCH (R170). -/
def searchBit (r : SearchRun) (b : Bool) : SearchRun where
  reg := shiftIn r.reg b
  bits := min (r.bits + 1) 15
  matched := r.matched && (decide (r.bits < 15) || b == prbsBit r.reg)
  ones := r.ones || b

/-- A comparison in SYNC: the generator and the number of differing bits. -/
structure SyncRun where
  reg  : BitVec 15
  diff : Nat
deriving DecidableEq, Repr

/-- One received bit in SYNC: the generator runs free (R170). -/
def syncBit (r : SyncRun) (b : Bool) : SyncRun where
  reg := shiftIn r.reg (prbsBit r.reg)
  diff := if b = prbsBit r.reg then r.diff else r.diff + 1

/-- The checker takes a block while the test is RUNNING (R170). -/
def takeChecked (block : Block) (s : State) : State :=
  if s.piu.phase = .running then
    match s.piu.checker with
    | .search reg bits =>
      let r := (blockBits block).foldl searchBit ⟨reg, bits, true, false⟩
      if r.matched && r.ones then raise .testSync (s.setPiu { s.piu with checker := .sync r.reg 0 })
      else s.setPiu { s.piu with checker := .search r.reg r.bits }
    | .sync reg errors =>
      let r := (blockBits block).foldl syncBit ⟨reg, 0⟩
      let counted := { s.piu with checked := satAdd max32 s.piu.checked 1 }
      if r.diff = 0 then s.setPiu { counted with checker := .sync r.reg 0 }
      else
        let bad := { counted with
          errored := satAdd max32 counted.errored 1, bitErrors := satAdd max32 counted.bitErrors r.diff }
        if errors + 1 ≥ 4 then raise .testSyncLost (s.setPiu { bad with checker := .search 0 0 })
        else s.setPiu { bad with checker := .sync r.reg (errors + 1) }
  else s

/-! ## The PIN mute (R164) -/

/-- PIN begun: the rest of the block being sent is 0, and a chime is cut. How many slots have begun is a free value
(log entry 11). -/
def pinBegun (s : State) : State :=
  let sent := (Config.frontSlotsBegun s.free).val
  (s.setPiu
    { s.piu with
      pinMute := .muted, chime := none
      fdo := s.piu.fdo.take sent ++ List.replicate (s.piu.fdo.length - sent) 0 }).setFree (s.free + 1)

/-- PIN ended: the mute holds for 2 s (R164). -/
def pinEnded (s : State) : State := s.setPiu { s.piu with pinMute := .hold 2000 }

/-! ## Loops and the end of a test -/

/-- A link test in ANNOUNCE or RUNNING ends (R172). -/
def endTest (p : Piu) : Piu :=
  if p.phase.active then { p with phase := .none, insertion := false, loopDown := 25 } else p

/-- A hire start ends a loop and a link test and clears the auto-loop runs (R167). -/
def hireStartsAtIntercom (s : State) : State :=
  let cleared := s.setPiu { s.piu with upRun := 0, downRun := 0 }
  if s.piu.loop ≠ .none ∨ s.piu.phase.active then
    raise .loopEnded (cleared.setPiu { endTest cleared.piu with loop := .none })
  else cleared

/-! ## Blocks to the two sides -/

/-- The block sent in each period of a chime (R165). -/
def chimeBlock : Block :=
  let eight : Block := [0, 5793, 8192, 5793, 0, -5793, -8192, -5793]
  eight ++ eight ++ eight ++ eight

/-- The block chosen for FDO (Table 8-4), from the front block received and the block read. -/
def frontBlock (s : State) (received fromRear : Block) : Block :=
  if s.piu.phase.active then silence
  else if s.piu.loop = .frontLocal ∨ s.piu.loop = .dual then received
  else if s.piu.loop = .rearRemote then silence
  else if s.piu.pinMute.inForce then silence
  else if s.piu.chime.isSome then chimeBlock
  else if rearToFrontOpen s then fromRear
  else silence

/-- The loop code LOOP_DOWN is owed (R163). -/
def owesLoopDown (p : Piu) : Bool := 0 < p.loopDown

/-- The control byte of a reply: call field RELEASED, the loop code, and the station status (R156, R209). -/
def replyControl (loopCode : Byte) (speaking : Bool) : Byte := (loopCode <<< 4) ||| (if speaking then 1 else 0)

/-- LOOP_DOWN is the code while the countdown is above 0, and lowers it by one (R163). -/
def downCode (p : Piu) : Byte := if owesLoopDown p then 2 else 0

/-- The reply to a valid or damaged frame, sent as its 67 bytes (R156, R163, R209, Table 8-5). -/
def rearReply (received : Block) (s : State) : State :=
  let answer (code : Byte) (b : Block) (p : Piu) : State :=
    s.setPiu { p with rlo := p.rlo ++ [rearFrameBytes (replyControl code (frontToRearOpen s)) b] }
  let owed (p : Piu) : Piu := { p with loopDown := p.loopDown - 1 }
  if s.piu.held then answer (downCode s.piu) silence (owed s.piu)
  else
    let r := s.piu.f2r.read
    let p := { s.piu with f2r := r.buffer }
    raiseSlip r.slip
      (match s.piu.phase with
      | .announce n =>
        answer 1 silence { p with phase := if n + 1 ≥ 25 then .running else .announce (n + 1) }
      | .running =>
        let t := genSamples 32 s.piu.gen
        let b := if s.piu.insertion then t.1.modifyHead (· ^^^ 0x8000) else t.1
        answer 0 b { p with gen := t.2, insertion := false }
      | .none =>
        let b :=
          if s.piu.loop = .rearRemote ∨ s.piu.loop = .dual then received
          else if s.piu.loop = .frontLocal then silence
          else if frontToRearOpen s then r.block
          else silence
        answer (downCode s.piu) b (owed p))

/-! ## Rear loss and starts -/

/-- The rear link becomes LOST (R157). -/
def loseRear (s : State) : State :=
  let p := { s.piu with
    rearUp := false, r2f := s.piu.r2f.drain, f2r := s.piu.f2r.drain, lastCall := false, upRun := 0, downRun := 0 }
  let lost := raise .rearLost (s.setPiu p)
  let unlooped :=
    if s.piu.loop ≠ .none ∧ s.piu.loopRemote then
      raise .remoteLoopOff (lost.setPiu { lost.piu with loop := .none })
    else lost
  match s.piu.checker with
  | .sync _ _ =>
    if s.piu.phase.active then
      raise .testSyncLost (unlooped.setPiu { unlooped.piu with checker := .search 0 0 })
    else unlooped
  | .search _ _ => unlooped

/-- The intercom at a start, with the configuration as it stands (R177). What FDO and RLO carry is kept as silence and no
frame (log entry 30), both positions of each buffer are 0 (log entry 41), and a rear frame that had begun is dropped (log entry 22):
DESIGN CHOICE, unsafe. -/
def startIntercom (s : State) : State :=
  s.setPiu
    { s.piu with
      held := false, floor := .driverPtt, talk := false, rearUp := false, lastCall := false, lastStatus := 0, damaged := 0
      r2f := .empty s.piu.depth s.piu.offset, f2r := .empty s.piu.depth s.piu.offset
      pinMute := .hold 2000, chime := none, loop := .none, loopRemote := false, upRun := 0, downRun := 0
      phase := .none, gen := 0x7FFF, checker := .search 0 0, checked := 0, errored := 0, bitErrors := 0
      insertion := false, loopDown := 0, fdo := silence, begun := [], rlo := [] }

end Sys2Proof.Machine
end

