-- ==== Sys2Proof/Machine/SignOps.lean ====
section
/-! DEFINITION. Operations of the sign unit and the roof bus controller that several commands share: the desired image
(R132 to R134), the update list (R137, R138), the ends of transfers (R141 to R147), the lamp test (R148 to R150) and HELD
(R151). -/

namespace Sys2Proof.Machine

/-! ## The desired image -/

/-- The AVAILABILITY content, the first case that holds (R133). -/
def availContent (s : State) : Avail :=
  if s.sau.shift ≠ .opened then .off
  else if cabEmpty s then .free
  else if s.fen.sharing ∧ 0 < freeSeats s ∧ s.fen.slots.toList.any (·.isNone) then .shared
  else .hired

/-- The TEXT content (R134). -/
def textContent (s : State) : List Byte :=
  if s.sgu.text ≠ [] then s.sgu.text else if availContent s = .free then s.sgu.label else []

/-- The desired image (R133 to R135). -/
def desiredImage (s : State) : Roles Content where
  availability := .avail (availContent s)
  seats := .seats (if availContent s = .shared then freeSeats s else 0)
  text := .text (textContent s)
  alert := .alert s.sgu.latch

/-! ## The update list -/

/-- A content enqueued for a role: in place, or a new entry at the head for ALERT and at the tail otherwise (R138). -/
def enqueue (r : Role) (c : Content) (probe : Bool) (l : List UpdateEntry) : List UpdateEntry :=
  if l.any (·.role == r) then l.map fun e => if e.role = r then { e with content := c, tries := 0 } else e
  else
    let e : UpdateEntry := { role := r, content := c, tries := 0, probe := probe, holdOff := none, inFlight := false }
    if r = .alert then e :: l else l ++ [e]

/-- Is a changed content of the role enqueued (R137)? -/
def takesChange (s : State) (l : List UpdateEntry) (r : Role) : Bool :=
  (s.sgu.roles.get r).isSome && (s.rbc.controller == .running || s.rbc.controller == .lampTest) &&
    (s.rbc.modules.get r != some .faulty || l.any fun e => e.role == r && e.probe)

/-- The desired image recomputed, and each role whose content changed enqueued (R132, R137). -/
def recomputeSign (s : State) : State :=
  let image := desiredImage s
  let list := Role.all.foldl
    (fun l r => if image.get r ≠ s.sgu.desired.get r ∧ takesChange s l r then enqueue r (image.get r) false l else l)
    s.sgu.list
  s.setSgu { s.sgu with desired := image, list := list }

/-- The TFS hands the SGU the label of the scheduled tariff (R29, R132). -/
def handLabel (s : State) : State := recomputeSign (s.setSgu { s.sgu with label := scheduledLabel s })

/-- A full refresh: the desired content of every role that has an address, in the order ALERT, AVAILABILITY, SEATS, TEXT;
the entry of a FAULTY module is a probe (R138). -/
def fullRefresh (s : State) : State :=
  let list := [Role.alert, .availability, .seats, .text].foldl
    (fun l r =>
      if (s.sgu.roles.get r).isSome then enqueue r (s.sgu.desired.get r) (s.rbc.modules.get r == some .faulty) l else l)
    s.sgu.list
  s.setSgu { s.sgu with list := list }

/-- The entry of a role in the list. -/
def entryOf (l : List UpdateEntry) (r : Role) : Option UpdateEntry := l.find? fun e => e.role == r

/-- The list without the entry of a role. -/
def dropEntry (l : List UpdateEntry) (r : Role) : List UpdateEntry := l.filter fun e => e.role != r

/-- The module states of a role table just configured: UNKNOWN where there is an address (R131, R151, R154). -/
def unknownModules (roles : Roles (Option Nat)) : Roles (Option ModState) := roles.map fun a => a.map fun _ => .unknown

/-- Contents unknown for every role. -/
def unknownContents : Roles (Option Content) := ⟨none, none, none, none⟩

/-- Probe timers stopped for every role. -/
def noProbes : Roles (Option Nat) := ⟨none, none, none, none⟩

/-! ## HELD (R151) -/

/-- The controller enters HELD (R151). -/
def enterHeld (s : State) : State :=
  (s.setSgu { s.sgu with list := [] }).setRbc
    { s.rbc with
      controller := .held, holdPending := false, phase := none
      modules := unknownModules s.sgu.roles, acked := unknownContents, probe := noProbes, arbLoss := 0
      flight := none, sending := [], arbWait := false, recovering := false
      lampTries := 0, lampRetry := none, litLeft := 0, lampCut := false }

/-! ## Transfers -/

/-- The RBC is driving a transfer of its own: in flight, and neither lost nor stopped by a stall (R139, R145). -/
def driving (b : Rbc) : Bool := b.flight.isSome && !b.arbWait

/-- The RBC begins a transfer of its own: the bus becomes BUSY (R139). -/
def startTransfer (t : Transfer) (bytes : List Byte) (s : State) : State :=
  s.setRbc { s.rbc with flight := some t, sending := bytes, busBusy := true, arbWait := false }

/-- The transfer is over on the lines: nothing is in flight and the bus is as given. -/
def clearFlight (busy : Bool) (s : State) : State :=
  s.setRbc { s.rbc with flight := none, sending := [], arbWait := false, busBusy := busy }

/-- The bytes of a content transfer to a role's module (R140). -/
def contentBytes (s : State) (r : Role) (c : Content) : List Byte :=
  busTransfer ((s.sgu.roles.get r).getD 0) 0x01 c.busBytes

/-- A transfer of the RBC ends by a means other than a loss (R146). -/
def endLossRun (s : State) : State := s.setRbc { s.rbc with arbLoss := 0 }

/-- A lamp transfer begins when the test wants one, none is in flight and the bus is FREE (R148, R149). -/
def beginLamp (s : State) : State :=
  if s.rbc.controller = .lampTest ∧ s.rbc.flight = none ∧ s.rbc.busBusy = false ∧ s.rbc.recovering = false
      ∧ s.rbc.lampRetry = none then
    match s.rbc.phase with
    | some .allOn => startTransfer .lampAllOn (busTransfer 0 0x02 []) s
    | some .restore => startTransfer .lampNormal (busTransfer 0 0x03 []) s
    | _ => s
  else s

/-- The lamp test goes to RESTORE (R148, R150). -/
def lampRestore (s : State) : State :=
  beginLamp (s.setRbc { s.rbc with phase := some .restore, lampTries := 0, lampRetry := none, litLeft := 0 })

/-- The end of the lamp test: RUNNING with a full refresh, or HELD when a hold is pending; LAMP_TEST_DONE or LAMP_TEST_CUT
(R148, R150, R151). -/
def endLampTest (s : State) : State :=
  let done := raise (if s.rbc.lampCut then .lampTestCut else .lampTestDone) s
  if s.rbc.holdPending then enterHeld done
  else
    fullRefresh (done.setRbc
      { done.rbc with
        controller := .running, phase := none, lampTries := 0, lampRetry := none, litLeft := 0, lampCut := false })

/-- A lamp transfer has ended, at its STOP or abandoned after its third failure: the next phase (R148 to R150). -/
def nextLampPhase (s : State) : State :=
  match s.rbc.phase with
  | some .allOn =>
    if s.rbc.lampCut then lampRestore s
    else s.setRbc { s.rbc with phase := some .lit, lampTries := 0, lampRetry := none, litLeft := 3000 }
  | some .restore => endLampTest s
  | _ => s

/-- After a content transfer has ended: HOLDING goes to HELD (R151), and a lamp test that waited goes on (R148, R150). -/
def afterContent (s : State) : State :=
  if s.rbc.controller = .holding then enterHeld s
  else if s.rbc.controller = .lampTest then
    if s.rbc.phase = some .allOn ∧ s.rbc.lampCut then lampRestore s else beginLamp s
  else s

/-- A failed try of a content transfer on its entry and its module (R142, R144). -/
def failEntry (r : Role) (s : State) : State :=
  match entryOf s.sgu.list r with
  | none => s
  | some e =>
    if e.probe then
      (s.setSgu { s.sgu with list := dropEntry s.sgu.list r }).setRbc
        { s.rbc with probe := s.rbc.probe.set r (some 5000) }
    else if e.tries + 1 < 3 then
      s.setSgu
        { s.sgu with
          list := dropEntry s.sgu.list r ++ [{ e with tries := e.tries + 1, holdOff := some 50, inFlight := false }] }
    else
      raise .moduleFault
        ((s.setSgu { s.sgu with list := dropEntry s.sgu.list r }).setRbc
          { s.rbc with
            modules := s.rbc.modules.set r (some .faulty)
            acked := s.rbc.acked.set r none
            probe := s.rbc.probe.set r (some 5000) })

/-- A failed try of a lamp transfer: again 50 ms later, or abandoned after the third (R149). DESIGN CHOICE, unsafe: with the test
cut in ALL_ON the failed try is its end (R150; log entry 19). -/
def failLamp (s : State) : State :=
  if s.rbc.lampTries + 1 < 3 ∧ ¬ (s.rbc.phase = some .allOn ∧ s.rbc.lampCut) then
    s.setRbc { s.rbc with lampTries := s.rbc.lampTries + 1, lampRetry := some 50 }
  else nextLampPhase s

/-- The transfer in flight fails, by a byte without acknowledge or by a stall, the bus being left as given
(R142, R144, R149). -/
def failTransfer (busy : Bool) (s : State) : State :=
  let ended := endLossRun (clearFlight busy s)
  match s.rbc.flight with
  | some (.content r _) => afterContent (failEntry r ended)
  | some _ => failLamp ended
  | none => s

/-- A content transfer succeeds (R141, R144). -/
def succeedContent (r : Role) (sent : Content) (s : State) : State :=
  let ended := endLossRun (clearFlight false s)
  let told := if s.rbc.modules.get r = some .faulty then raise .moduleRecovered ended else ended
  let known := told.setRbc
    { told.rbc with
      acked := told.rbc.acked.set r (some sent)
      modules := told.rbc.modules.set r (some .ok)
      probe := told.rbc.probe.set r none }
  let list :=
    match entryOf s.sgu.list r with
    | none => s.sgu.list
    | some e =>
      if e.content = sent then dropEntry s.sgu.list r
      else s.sgu.list.map fun x =>
        if x.role = r then { x with tries := 0, probe := false, inFlight := false } else x
  afterContent (known.setSgu { known.sgu with list := list })

/-! ## The alert latch -/

/-- A rise of the alert latch cuts a lamp test short (R150). DESIGN CHOICE, unsafe: a LAMP_ALL_ON that has lost arbitration and
waits for its restart (R145) is taken as in flight, so that it is sent again and RESTORE follows its end (log entry 19). -/
def cutLampTest (s : State) : State :=
  if s.rbc.controller = .lampTest then
    match s.rbc.phase with
    | some .allOn =>
      let cut := s.setRbc { s.rbc with lampCut := true }
      if s.rbc.flight = none then lampRestore cut else cut
    | some .lit => lampRestore (s.setRbc { s.rbc with lampCut := true })
    | _ => s
  else s

/-! ## Starts -/

/-- The SGU and RBC at a start, with the role table and the latch as they stand (R154). The level of ALRM is
the pin's, which State follows in every supply state, so that ALERT_CLEAR and SIGN_READ find the present one (log entry 12). -/
def startSign (s : State) : State :=
  let quiet := (s.setSgu { s.sgu with text := [], list := [], label := scheduledLabel s }).setRbc
    { s.rbc with
      acked := unknownContents, modules := unknownModules s.sgu.roles, probe := noProbes
      controller := .held, holdPending := false, phase := none
      busBusy := true, idleOnly := true, arbLoss := 0, flight := none, sending := [], arbWait := false
      recovering := false, lampTries := 0, lampRetry := none, litLeft := 0, lampCut := false }
  let imaged := quiet.setSgu { quiet.sgu with desired := desiredImage quiet }
  let going :=
    if imaged.sgu.roles.availability.isSome then
      fullRefresh (imaged.setRbc { imaged.rbc with controller := .running })
    else imaged
  if going.sgu.latch then condBegin .alert going else going

end Sys2Proof.Machine
end

