-- ==== Sys2Proof/Machine/FareOps.lean ====
section
/-! DEFINITION. Operations of metering that several commands share: the fare view (R64 to R67), the display lag count
(R73, R74), accrual (R42 to R46), band changes (R27, R47), payment failures (R55), tenders and closes (R56, R58, R121). -/

namespace Sys2Proof.Machine

/-! ## The fare view -/

/-- The entry a snapshot holds for a hire (Table 4-2). -/
def viewEntry (running : Nat) (h : Hire) : ViewEntry where
  number := h.number
  state := h.state
  tariff := h.tariff
  fare := h.fare
  extrasTotal := h.extrasTotal
  dueTotal := match h.state with
    | .frozen | .due | .paying => h.bill.map (·.dueTotal)
    | _ => none
  remaining := match h.state with
    | .due | .paying => h.bill.map (·.remaining)
    | _ => none
  hiredDistance := h.hiredDistance
  waitSeconds := h.waitSeconds
  shared := h.state == .running && 2 ≤ running

/-- The slot entries of the hire table as it stands (R64). -/
def viewEntries (f : Four (Option Hire)) : Four (Option ViewEntry) :=
  f.map fun o => o.map (viewEntry (runningCount f))

/-- An event of the FEN causes one composition, with the entries as they stand after the event (R61, R64; log entry 4). -/
def compose (s : State) : State :=
  s.setTransit { s.transit with vbu := s.transit.vbu ++ [viewEntries s.fen.slots] }

def Vbu.get (v : Vbu) : BufName → Option Snapshot
  | .A => v.bufA | .B => v.bufB | .C => v.bufC

def Vbu.put (v : Vbu) (b : BufName) (x : Option Snapshot) : Vbu :=
  match b with
  | .A => { v with bufA := x } | .B => { v with bufB := x } | .C => { v with bufC := x }

/-- A composition as one event of the VBU (R67). -/
def Vbu.compose (v : Vbu) (now : CalTime) (entries : Four (Option ViewEntry)) : Vbu :=
  let seq := (v.seq + 1) % 65536
  let lost := (v.get v.ready).isSome
  { v.put v.write (some ⟨seq, now, entries⟩) with
    seq := seq, write := v.ready, ready := v.write
    overwritten := if lost then satAdd max16 v.overwritten 1 else v.overwritten }

/-- The display lag count reloaded to the lag limit; a DISPLAY_STALE that held ends (R71, R74, R75). DESIGN CHOICE,
unsafe: after a SHOWN the count is the whole lag limit, whether a step was charged just before it or not (R76; log entry 40). -/
def reloadLag (s : State) : State :=
  let loaded := s.setVbu { s.vbu with lagCount := s.vbu.lagLimit }
  if displayStale s then condEnd .displayStale loaded else loaded

/-- The onset of DISPLAY_STALE: reported to the CLC, one episode posted (R74, R123). -/
def staleOnset (s : State) : State :=
  condBegin .displayStale (post (fun r => { r with staleEpisodes := satAdd max16 r.staleEpisodes 1 }) s)

/-- The snapshot the VBU composes at a start, its buffers and roles taken afresh (R77, R78). -/
def Vbu.start (v : Vbu) (now : CalTime) (entries : Four (Option ViewEntry)) : Vbu :=
  { v with bufA := none, bufB := none, bufC := none, write := .A, ready := .B, console := .C, overwritten := 0 }.compose
    now entries

/-- The VBU at a start; DISPLAY_STALE is reported if the count is 0, and no episode is posted (R77). -/
def startView (s : State) : State :=
  let fresh := (s.setVbu (s.vbu.start s.cku.now (viewEntries s.fen.slots))).setTransit { s.transit with vbu := [] }
  if displayStale fresh then condBegin .displayStale fresh else fresh

/-! ## Accrual -/

/-- What a report has done to a hire and to the display lag count so far. -/
structure Accrual where
  hire     : Hire
  lag      : Nat
  charged  : Bool
  forgone  : Bool
  switched : Bool
deriving DecidableEq, Repr

/-- A report of metres credited to a hire: distance at or above the crossover, otherwise a wait second (R42). -/
def credit (t : Tariff) (metres : Nat) (h : Hire) : Hire :=
  if t.crossover ≤ metres then
    { h with distSince := h.distSince + metres, hiredDistance := satAdd max32 h.hiredDistance metres }
  else { h with waitSince := h.waitSince + 1, waitSeconds := satAdd max32 h.waitSeconds 1 }

/-- A step of the amount given is charged or forgone against the display lag count (R45, R73). -/
def chargeStep (amount : Nat) (a : Accrual) : Accrual :=
  if 0 < a.lag then
    { a with
      lag := a.lag - 1, charged := true
      hire := { a.hire with
        fare := satAdd maxFare a.hire.fare amount, charged := satAdd max16 a.hire.charged 1 } }
  else
    { a with
      forgone := true
      hire := { a.hire with
        forgone := satAdd max16 a.hire.forgone 1
        forgoneAmount := satAdd maxAmount a.hire.forgoneAmount amount } }

/-- The pending tariff is taken after a step (R46). -/
def switchTariff (a : Accrual) : Accrual :=
  match a.hire.pending with
  | none => a
  | some p =>
    { a with
      switched := true
      hire := { a.hire with tariff := p, pending := none, distSince := 0, waitSince := 0 } }

/-- The amount of a step: shared when two or more hires were RUNNING at the report (R44). -/
def stepCost (shared : Bool) (t : Tariff) : Nat := if shared then t.sharedStep else t.stepAmount

/-- The next step that falls for a hire under its current tariff, a distance step first (R43). -/
def nextStep (t : Tariff) (h : Hire) : Option Hire :=
  if t.stepDistance ≤ h.distSince then some { h with distSince := h.distSince - t.stepDistance, waitSince := 0 }
  else if t.stepWait ≤ h.waitSince then some { h with distSince := 0, waitSince := 0 }
  else none

/-- Steps fall for as long as a threshold is reached (R43). The fuel is more than the steps that can fall. -/
def fallSteps (set : TariffSet) (shared : Bool) : Nat → Accrual → Accrual
  | 0, a => a
  | fuel + 1, a =>
    match set.tariff? a.hire.tariff with
    | none => a
    | some t =>
      match nextStep t a.hire with
      | none => a
      | some h => fallSteps set shared fuel (switchTariff (chargeStep (stepCost shared t) { a with hire := h }))

/-- A NORMAL report applied to a RUNNING hire (R42, R43). -/
def accrue (set : TariffSet) (shared : Bool) (metres lag : Nat) (h : Hire) : Accrual :=
  let a : Accrual := ⟨h, lag, false, false, false⟩
  match set.tariff? h.tariff with
  | none => a
  | some t =>
    let c := credit t metres h
    fallSteps set shared (c.distSince + 2) { a with hire := c }

/-- The outcome of a report for one slot, taken into the part: the hire, the count, the reasons of R45 and R46, and the
onset of DISPLAY_STALE (R74). DESIGN CHOICE, unsafe: with lag limit 1 a charged step after a matching SHOWN brings the count
from 1 to 0 and begins an episode, as R74 says, though R76 says that no episode begins when the SHOWN is taken first (log
entry 40). -/
def takeAccrual (k : Slot) (a : Accrual) (s : State) : State :=
  let kept := (s.setHire k (some a.hire)).setVbu { s.vbu with lagCount := a.lag }
  let forgone := if a.forgone then raise (.stepsForgone k) kept else kept
  let switched := if a.switched then raise (.tariffSwitched k) forgone else forgone
  if 0 < s.vbu.lagCount ∧ a.lag = 0 then staleOnset switched else switched

/-- A report applied to one slot, and whether it causes a composition (R41, R61). -/
def accrueSlot (shared : Bool) (metres : Nat) (acc : State × Bool) (k : Slot) : State × Bool :=
  match acc.1.hire k with
  | some h =>
    if h.state = .running then
      let a := accrue (activeSet acc.1) shared metres acc.1.vbu.lagCount h
      (takeAccrual k a acc.1, acc.2 || a.charged || a.switched)
    else acc
  | none => acc

/-- The FEN takes a second report (R41). -/
def applyReport (r : SecondReport) (s : State) : State :=
  if r.mark = .normal then
    let shared := 2 ≤ runningCount s.fen.slots
    let acc := Slot.all.foldl (accrueSlot shared r.metres) (s, false)
    if acc.2 then compose acc.1 else acc.1
  else s

/-- The SAU takes a second report (R119). -/
def postReport (r : SecondReport) (s : State) : State :=
  post
    (fun v =>
      let v := { v with shiftDistance := satAdd maxDistance v.shiftDistance r.metres }
      if r.mark ≠ .normal then { v with rejectedDistance := satAdd maxDistance v.rejectedDistance r.metres }
      else if 0 < runningCount s.fen.slots then { v with hiredDistance := satAdd maxDistance v.hiredDistance r.metres }
      else { v with vacantDistance := satAdd maxDistance v.vacantDistance r.metres })
    s

/-! ## Tariff switches -/

/-- The pending tariff set or cleared against a scheduled tariff (R47, R49). -/
def Hire.follow (n : Nat) (h : Hire) : Hire := { h with pending := if n = h.tariff then none else some n }

/-- Does a band change reach the hire (R47)? -/
def Hire.followsCalendar (h : Hire) : Bool :=
  (h.state == .running || h.state == .suspended) && h.source == .schedule

/-- The FEN takes a band change or a schedule refresh (R47, R48). -/
def applyBandChange (n : Nat) (s : State) : State :=
  s.setFen { s.fen with
    slots := s.fen.slots.map fun o => o.map fun h => if h.followsCalendar then h.follow n else h }

/-- The TFS evaluates the scheduled tariff at its evaluation point; if it differs, it records it and issues a band change:
METER BAND_CHANGE, the FEN, the label (R26, R27). -/
def evaluateSchedule (s : State) : State :=
  let n := scheduledAt (activeSet s) s.tfs.point
  if n = s.tfs.scheduled then s
  else handLabel (toFen (.bandChange n) (raise .bandChange (s.setTfs { s.tfs with scheduled := n })))

/-! ## Suspension -/

/-- The RUNNING hires become SUSPENDED (R39, R40). -/
def suspendRunning (s : State) : State :=
  s.setFen { s.fen with
    slots := s.fen.slots.map fun o => o.map fun h => if h.state = .running then { h with state := .suspended } else h }

/-- A seal opening at the FEN: RUNNING hires are suspended with a reason each, and one composition follows a change
(R39, R61). -/
def sealSuspension (s : State) : State :=
  let running := Slot.all.filter fun k => s.hireState k = some .running
  if running = [] then s
  else compose (running.foldl (fun t k => raise (.suspended k) t) (suspendRunning s))

/-! ## Payment failure, tenders and closes -/

/-- A payment failure returns a PAYING hire to DUE (R55, R61). -/
def paymentFailure (k : Slot) (s : State) : State :=
  match s.hire k with
  | some h =>
    if h.state = .paying then compose (raise (.paymentFailed k) (s.setHire k (some { h with state := .due }))) else s
  | none => s

/-- The sum of a hire's entries of a code (Table 3-5). -/
def extrasOf (c : Nat) (h : Hire) : Nat := ((h.extras.filter fun e => e.code == c).map (·.amount)).sum

/-- The sum over a hire's tenders of one method (R121). -/
def tenderSum (m : Method) (f : Tender → Nat) (h : Hire) : Nat :=
  ((h.tenders.filter fun t => t.method == m).map f).sum

/-- A close added to the live shift record (R121); paid tells PAID from UNPAID, and writtenOff is 0 for PAID. -/
def postClose (paid : Bool) (writtenOff : Nat) (h : Hire) (v : ShiftRecord) : ShiftRecord :=
  { v with
    hiresClosed := satAdd 9999 v.hiresClosed 1
    hiresPaid := if paid then satAdd 9999 v.hiresPaid 1 else v.hiresPaid
    hiresWrittenOff := if paid then v.hiresWrittenOff else satAdd 9999 v.hiresWrittenOff 1
    faresSum := satAdd maxSum v.faresSum h.fare
    topUpsSum := satAdd maxSum v.topUpsSum ((h.bill.map (·.topUp)).getD 0)
    dueSum := satAdd maxSum v.dueSum ((h.bill.map (·.dueTotal)).getD 0)
    extrasSums := v.extrasSums.mapIdx fun j x => satAdd maxSum x (extrasOf (j + 1) h)
    cashNet := satAdd maxSum v.cashNet (tenderSum .cash (·.amount) h)
    account := satAdd maxSum v.account (tenderSum .account (·.amount) h)
    cardApproved := satAdd maxSum v.cardApproved (tenderSum .card (·.amount) h)
    cardDeferred := satAdd maxSum v.cardDeferred (tenderSum .cardDeferred (·.amount) h)
    tipsApproved := satAdd maxSum v.tipsApproved (tenderSum .card (·.tip) h)
    tipsDeferred := satAdd maxSum v.tipsDeferred (tenderSum .cardDeferred (·.tip) h)
    writtenOff := satAdd maxSum v.writtenOff writtenOff
    stepsCharged := satAdd max32 v.stepsCharged h.charged
    stepsForgone := satAdd max32 v.stepsForgone h.forgone
    forgoneAmount := satAdd maxSum v.forgoneAmount h.forgoneAmount }

/-- A hire closes: the close record is posted, the reason raised, the slot emptied and the neighbours told (R58, R62). The
composition of the event is the caller's (R61). -/
def closeHire (k : Slot) (paid : Bool) (writtenOff : Nat) (h : Hire) (s : State) : State :=
  recomputeSign
    ((raise (if paid then .closedPaid k else .closedUnpaid k) (post (postClose paid writtenOff h) s)).setHire k none)

/-- A tender recorded as the last of a hire's list, its remaining lowered (R56). -/
def Hire.tendered (t : Tender) (h : Hire) : Hire :=
  { h with
    tenders := h.tenders ++ [t]
    bill := h.bill.map fun b => { b with remaining := b.remaining - t.amount } }

/-- The remaining of a hire, 0 where it has no bill. -/
def Hire.remaining (h : Hire) : Nat := (h.bill.map (·.remaining)).getD 0

/-- A tender that the FEN records: within the remaining, and equal to it as the third (R56). -/
def Hire.takesTender (t : Tender) (h : Hire) : Bool :=
  t.amount ≤ h.remaining && (h.tenders.length < 2 || t.amount == h.remaining)

/-- The FEN records a tender on the hire of a slot; at remaining 0 the hire closes as paid, and one composition follows
(R56, R58, R61). DESIGN CHOICE, unsafe: a hire with a due total of 0 closes here too, at a tender of amount 0 (log
entry 37). -/
def recordTender (k : Slot) (t : Tender) (s : State) : State :=
  match s.hire k with
  | some h =>
    if h.takesTender t then
      let h' := h.tendered t
      compose (if h'.remaining = 0 then closeHire k true 0 h' s else s.setHire k (some h'))
    else s
  | none => s

/-- The due total and the remaining of a stopped hire after its extras changed; the state becomes FROZEN (R51, R52). -/
def Hire.rebilled (h : Hire) : Hire :=
  match h.bill with
  | none => h
  | some b =>
    let due := h.fare + b.topUp + h.extrasTotal
    { h with
      state := .frozen
      bill := some { b with dueTotal := due, remaining := due - (h.tenders.map (·.amount)).sum } }

/-- A hire that has not been stopped keeps its state when its extras change; a stopped one is billed again (R51, R52). -/
def Hire.afterExtras (h : Hire) : Hire := if h.state = .running then h else h.rebilled

end Sys2Proof.Machine
end

