-- ==== Sys2Proof/Machine/Clock.lean ====
section
/-! DEFINITION. The meanings of the calendar clock's commands: the whole second with its second report and minute event, and
the time requests (R3, R11 to R15, R109, R123). -/

namespace Sys2Proof.Machine

/-- The mark of a second closed at its whole second (R3). -/
def secondMark (metres : Nat) : Mark := if 70 < metres then .implausible else .normal

/-- The MIU closes the second that ended at the time given and issues its report (R3). -/
def closeSecond (ended : CalTime) (s : State) : State :=
  let r : SecondReport := ⟨ended, s.miu.secondCount, secondMark s.miu.secondCount⟩
  let issued := issueReport r (s.setMiu { s.miu with secondCount := 0 })
  if r.mark = .implausible then raise .implausible issued else issued

/-- 72 hours in seconds (R109). -/
def agingSeconds : Nat := 259200

/-- Is an entry marked aged at a minute event of the time given (R109)? -/
def Deferred.ages (now : CalTime) (d : Deferred) : Bool := !d.aged && d.time.seconds + agingSeconds < now.seconds

/-- The STU takes a minute event: entries deferred more than 72 hours before are marked (R109). -/
def ageDeferred (now : CalTime) (s : State) : State :=
  if s.stu.deferred.any (·.ages now) then
    raise .deferredAged
      (s.setStu { s.stu with
        deferred := s.stu.deferred.map fun d => if d.ages now then { d with aged := true } else d })
  else s

/-- The SAU takes a minute event: a break minute while on BREAK (R123). -/
def countBreakMinute (s : State) : State :=
  if s.sau.shift = .onBreak then post (fun r => { r with breakMinutes := satAdd max32 r.breakMinutes 1 }) s else s

/-- A minute event: taken by the STU and the SAU, and issued to the TFS (R13; log entry 4). -/
def minuteEvent (s : State) : State :=
  let taken := countBreakMinute (ageDeferred s.cku.now s)
  taken.setTransit { taken.transit with tfs := taken.transit.tfs ++ [presentPoint taken] }

/-- The clock advances one second (R11). -/
def advanceClock (s : State) : State := s.setCku { s.cku with now := s.cku.now.next }

/-- A whole second: the clock runs in every supply state; the blocks take it while they run (R11, R13, R194). -/
def wholeSecond (s : State) : State :=
  if powered s then
    let closed := closeSecond s.cku.now (advanceClock s)
    if closed.cku.now.second = 0 then minuteEvent closed else closed
  else advanceClock s

def execWholeSecond (s : State) : Host.Outcome State Fault Refusal := .next (wholeSecond s)

/-- SET_TIME (R14, R28). -/
def serveSetTime (t : CalTime) (s : State) : Served :=
  if shiftRuns s then refuse .notAllowed s
  else if ¬ t.inRange then refuse .badField s
  else
    let set := s.setCku { now := t, timeSet := true }
    served [] (evaluateSchedule (set.setTfs { set.tfs with point := presentPoint set }))

/-- GET_TIME (R15). -/
def serveGetTime (s : State) : Served :=
  served
    (s.cku.now.toBytes ++ be 1 s.cku.now.date.weekday.code ++ be 1 (dayClass s s.cku.now.date).code
      ++ flagByte s.cku.timeSet)
    s

def execSetTime (year month day hour minute second : Nat) (s : State) : Host.Outcome State Fault Refusal :=
  request 0x07 (serveSetTime ⟨⟨year, month, day⟩, hour, minute, second⟩) s
def execGetTime (s : State) : Host.Outcome State Fault Refusal := request 0x06 serveGetTime s

end Sys2Proof.Machine
end

