-- ==== Sys2Proof/Machine/Hires.lean ====
section
/-! DEFINITION. The meanings of the fare engine's commands: reports, band changes and confirmations taken, and the hire
requests (chapter 3, R53). -/

namespace Sys2Proof.Machine

/-! ## Events on their way to the FEN -/

/-- The oldest event of one kind leaves the list; the others keep their order (log entry 4). -/
def takeFirst {α : Type} (f : FenEvent → Option α) : List FenEvent → Option (α × List FenEvent)
  | [] => none
  | e :: rest =>
    match f e with
    | some a => some (a, rest)
    | none => (takeFirst f rest).map fun p => (p.1, e :: p.2)

def FenEvent.report? : FenEvent → Option SecondReport
  | .report r => some r
  | _ => none

def FenEvent.bandChange? : FenEvent → Option Nat
  | .bandChange n => some n
  | _ => none

def FenEvent.confirm? : FenEvent → Option (Four (Option ViewEntry))
  | .confirm e => some e
  | _ => none

/-- The FEN takes the oldest event of a kind, if there is one. -/
def takeFenEvent {α : Type} (f : FenEvent → Option α) (g : α → State → State) (s : State) : State :=
  match takeFirst f s.transit.fen with
  | some (a, rest) => g a (s.setTransit { s.transit with fen := rest })
  | none => s

def execFenSecondReport (s : State) : Host.Outcome State Fault Refusal :=
  event (takeFenEvent FenEvent.report? applyReport) s
def execFenBandChange (s : State) : Host.Outcome State Fault Refusal :=
  event (takeFenEvent FenEvent.bandChange? applyBandChange) s

/-! ## Confirmation (R53) -/

/-- The amount an entry displayed: its due total, or its metered fare plus its extras total (R53, section 4.1). -/
def ViewEntry.displayed (e : ViewEntry) : Nat := e.dueTotal.getD (e.fare + e.extrasTotal)

/-- A FROZEN hire qualifies for DUE: the entry shows FROZEN with the hire's due total (R53). -/
def Hire.qualifies (h : Hire) (e : ViewEntry) : Bool :=
  h.state == .frozen && e.state == .frozen && e.dueTotal.isSome && e.dueTotal == h.bill.map (·.dueTotal)

/-- One entry of a confirmation, and whether a hire became DUE so far (R53). -/
def confirmSlot (entries : Four (Option ViewEntry)) (acc : State × Bool) (k : Slot) : State × Bool :=
  match entries.get k, acc.1.hire k with
  | some e, some h =>
    if h.number = e.number then
      let shown := { h with confirmed := some e.displayed }
      if h.qualifies e then (raise (.dueReached k) (acc.1.setHire k (some { shown with state := .due })), true)
      else (acc.1.setHire k (some shown), acc.2)
    else acc
  | _, _ => acc

/-- The FEN takes a confirmation; one composition follows when a hire became DUE (R53, R71). -/
def applyConfirmation (entries : Four (Option ViewEntry)) (s : State) : State :=
  let acc := Slot.all.foldl (confirmSlot entries) (s, false)
  if acc.2 then compose acc.1 else acc.1

def execConfirmation (s : State) : Host.Outcome State Fault Refusal :=
  event (takeFenEvent FenEvent.confirm? applyConfirmation) s

/-! ## Starting a hire -/

/-- The checks of HIRE_START in the order of Table 3-4, after the fields; none when all pass (R35). -/
def startRefusal (k : Slot) (party : Nat) (source : TariffSource) (tariff : Nat) (s : State) : Option Status :=
  if s.sau.shift ≠ .opened then some .notAllowed
  else if s.miu.sealOpen then some .sealed
  else if ¬ s.miu.kValid then some .notAllowed
  else if (s.hire k).isSome then some .notAllowed
  else if ¬ s.fen.sharing ∧ occupied s then some .notAllowed
  else if freeSeats s < party then some .full
  else if source = .fixed ∧ ((activeSet s).tariff? tariff).isNone then some .badField
  else if 9999 ≤ s.fen.counter then some .notAllowed
  else none

/-- The record of a hire that starts (R36). -/
def newHire (party : Nat) (source : TariffSource) (tariff : Nat) (s : State) : Hire where
  state := .running
  number := s.fen.counter + 1
  party := party
  source := source
  tariff := tariff
  pending := none
  startTime := s.cku.now
  startOdometer := s.miu.odometer
  fare := (((activeSet s).tariff? tariff).map (·.flagFall)).getD 0
  charged := 0
  forgone := 0
  forgoneAmount := 0
  distSince := 0
  waitSince := 0
  hiredDistance := 0
  waitSeconds := 0
  extras := []
  extrasTotal := 0
  bill := none
  confirmed := none
  tenders := []

/-- The current tariff of a hire that starts (R36). -/
def startTariff (source : TariffSource) (tariff : Nat) (s : State) : Nat :=
  if source = .schedule then s.tfs.scheduled else tariff

/-- A hire starts: the record, the neighbours (R62), the intercom (R167) and one composition (R36, R61). -/
def beginHire (k : Slot) (h : Hire) (s : State) : State :=
  hireStartsAtIntercom
    (recomputeSign (compose ((s.setFen { s.fen with counter := s.fen.counter + 1 }).setHire k (some h))))

/-- HIRE_START (R35, R36). -/
def serveHireStart (slot party source tariff : Nat) (s : State) : Served :=
  match slotOf slot, sourceOf source with
  | some k, some src =>
    if ¬ within 1 6 party ∨ (src = .fixed ∧ ¬ within 1 8 tariff) then refuse .badField s
    else
      match startRefusal k party src tariff s with
      | some st => refuse st s
      | none =>
        let h := newHire party src (startTariff src tariff s) s
        served (be 2 h.number ++ be 1 h.tariff) (beginHire k h s)
  | _, _ => refuse .badField s

/-! ## Stopping and resuming -/

/-- A request on a hire in one of the states that take it; BAD_FIELD for the fields, then NOT_ALLOWED (R33). -/
def onHire (slot : Nat) (fieldsOk : Bool) (states : List HireState) (f : Slot → Hire → Served) (s : State) : Served :=
  match slotOf slot with
  | none => refuse .badField s
  | some k =>
    if fieldsOk then
      match s.hire k with
      | none => refuse .notAllowed s
      | some h => if states.contains h.state then f k h else refuse .notAllowed s
    else refuse .badField s

/-- A hire stopped: the pending tariff dropped, top-up and due total fixed (R37). -/
def Hire.stopped (set : TariffSet) (h : Hire) : Hire :=
  let topUp := ((set.tariff? h.tariff).map (·.minimumFare)).getD 0 - h.fare
  let due := h.fare + topUp + h.extrasTotal
  { h with pending := none, tenders := [], state := .frozen, bill := some ⟨topUp, due, due⟩ }

/-- HIRE_STOP (R37). -/
def serveHireStop (slot : Nat) (s : State) : Served :=
  onHire slot true [.running, .suspended]
    (fun k h =>
      let stopped := h.stopped (activeSet s)
      served (be 4 stopped.remaining) (compose (s.setHire k (some stopped)))) s

/-- HIRE_RESUME (R38). -/
def serveHireResume (slot : Nat) (s : State) : Served :=
  onHire slot true [.suspended]
    (fun k h =>
      if s.sau.shift ≠ .opened then refuse .notAllowed s
      else if s.miu.sealOpen then refuse .sealed s
      else served [] (compose (s.setHire k (some { h with state := .running })))) s

/-- SET_HIRE_TARIFF (R49). -/
def serveSetHireTariff (slot source tariff : Nat) (s : State) : Served :=
  match sourceOf source with
  | none => refuse .badField s
  | some src =>
    onHire slot (src == .schedule || within 1 8 tariff) [.running, .suspended]
      (fun k h =>
        if src = .fixed ∧ ((activeSet s).tariff? tariff).isNone then refuse .badField s
        else
          let h' := { h with source := src }.follow (startTariff src tariff s)
          served (be 1 h'.tariff ++ optField 1 h'.pending) (s.setHire k (some h'))) s

/-! ## Extras -/

/-- The reply of ADD_EXTRA and REMOVE_EXTRA: the extras total and, from FROZEN on, the due total (R51, R52). -/
def extrasReply (k : Slot) (h : Hire) (s : State) : Served :=
  served (be 4 h.extrasTotal ++ optField 4 (h.bill.map (·.dueTotal))) (compose (s.setHire k (some h)))

/-- The amount an entry of a code adds: the catalogue's for a FIXED code, the one carried, within the cap, for a VARIABLE
one (R51). -/
def extraAmount (e : ExtraEntry) (amount : Nat) : Option Nat :=
  match e.kind with
  | .fixedAmount => some e.amount
  | .variableAmount => if within 1 e.amount amount then some amount else none

/-- ADD_EXTRA (R51). -/
def serveAddExtra (slot code amount : Nat) (s : State) : Served :=
  onHire slot (within 1 8 code) [.running, .frozen, .due]
    (fun k h =>
      match (activeSet s).extra? code with
      | none => refuse .notFound s
      | some e =>
        match extraAmount e amount with
        | none => refuse .badField s
        | some a =>
          if 8 ≤ h.extras.length ∨ e.maxCount ≤ (h.extras.filter fun x => x.code == code).length then refuse .full s
          else
            extrasReply k
              { h with extras := h.extras ++ [(⟨code, a⟩ : ExtraItem)], extrasTotal := h.extrasTotal + a }.afterExtras s) s

/-- Would a removal bring the due total to or below the tenders recorded (R52)? -/
def Hire.underpaidBy (amount : Nat) (h : Hire) : Bool :=
  match h.bill with
  | none => false
  | some b => h.state != .running && h.fare + b.topUp + (h.extrasTotal - amount) ≤ (h.tenders.map (·.amount)).sum

/-- REMOVE_EXTRA (R52). -/
def serveRemoveExtra (slot index : Nat) (s : State) : Served :=
  onHire slot (index ≤ 7) [.running, .frozen, .due]
    (fun k h =>
      match h.extras[index]? with
      | none => refuse .notFound s
      | some x =>
        if h.underpaidBy x.amount then refuse .notAllowed s
        else
          extrasReply k
            { h with extras := h.extras.eraseIdx index, extrasTotal := h.extrasTotal - x.amount }.afterExtras s) s

/-! ## Abandoning and reading -/

/-- HIRE_ABANDON (R57, R58). -/
def serveHireAbandon (slot : Nat) (s : State) : Served :=
  onHire slot true [.frozen, .due]
    (fun k h => served (be 4 h.remaining) (compose (closeHire k false h.remaining h s))) s

/-- A tender as HIRE_READ carries it (R59; log entry 13). -/
def Tender.toBytes (t : Tender) : List Byte :=
  be 1 t.method.code ++ be 4 t.amount ++ be 4 t.tip ++ countedText t.account

/-- A hire record in the order of Table 3-2 (R59; log entry 13). -/
def Hire.toBytes (h : Hire) : List Byte :=
  be 1 h.state.code ++ be 2 h.number ++ be 1 h.party ++ be 1 h.source.code ++ be 1 h.tariff ++ optField 1 h.pending
    ++ h.startTime.toBytes ++ be 4 h.startOdometer ++ be 4 h.fare ++ be 2 h.charged ++ be 2 h.forgone
    ++ be 4 h.forgoneAmount ++ be 4 h.distSince ++ be 2 h.waitSince ++ be 4 h.hiredDistance ++ be 4 h.waitSeconds
    ++ be 1 h.extras.length ++ (h.extras.flatMap fun x => be 1 x.code ++ be 4 x.amount) ++ be 4 h.extrasTotal
    ++ optField 4 (h.bill.map (·.topUp)) ++ optField 4 (h.bill.map (·.dueTotal)) ++ optField 4 h.confirmed
    ++ be 1 h.tenders.length ++ h.tenders.flatMap Tender.toBytes ++ optField 4 (h.bill.map (·.remaining))

/-- HIRE_READ (R59). -/
def serveHireRead (slot : Nat) (s : State) : Served :=
  match slotOf slot with
  | none => refuse .badField s
  | some k =>
    match s.hire k with
    | none => served (be 1 0 ++ be 1 (freeSeats s)) s
    | some h => served (h.toBytes ++ be 1 (freeSeats s)) s

def execHireStart (slot party source tariff : Nat) (s : State) : Host.Outcome State Fault Refusal :=
  request 0x28 (serveHireStart slot party source tariff) s
def execHireStop (slot : Nat) (s : State) : Host.Outcome State Fault Refusal := request 0x29 (serveHireStop slot) s
def execHireResume (slot : Nat) (s : State) : Host.Outcome State Fault Refusal := request 0x2A (serveHireResume slot) s
def execSetHireTariff (slot source tariff : Nat) (s : State) : Host.Outcome State Fault Refusal :=
  request 0x2B (serveSetHireTariff slot source tariff) s
def execAddExtra (slot code amount : Nat) (s : State) : Host.Outcome State Fault Refusal :=
  request 0x2C (serveAddExtra slot code amount) s
def execRemoveExtra (slot index : Nat) (s : State) : Host.Outcome State Fault Refusal :=
  request 0x2D (serveRemoveExtra slot index) s
def execHireAbandon (slot : Nat) (s : State) : Host.Outcome State Fault Refusal := request 0x2E (serveHireAbandon slot) s
def execHireRead (slot : Nat) (s : State) : Host.Outcome State Fault Refusal := request 0x2F (serveHireRead slot) s

end Sys2Proof.Machine
end

