-- ==== Sys2Proof/Machine/Intercom.lean ====
section
/-! DEFINITION. The meanings of the intercom's commands (chapter 8). -/

namespace Sys2Proof.Machine

/-! ## The front port -/

/-- The 125 periods of a chime have run out: it is idle (R165). -/
def chimeOver (s : State) : State := if s.piu.chime = some 0 then s.setPiu { s.piu with chime := none } else s

/-- A front completion while RUNNING: the rear-to-front buffer is read and the block for FDO chosen, the block received goes
to the front-to-rear buffer while the rear link is UP (R155, R158, R159, R162). -/
def completeFront (received : Block) (s : State) : State :=
  let s := chimeOver s
  let r := s.piu.r2f.read
  let w := s.piu.f2r.arrive received
  let sent := { s.piu with
    r2f := r.buffer, fdo := frontBlock s received r.block, chime := s.piu.chime.map (· - 1) }
  if s.piu.rearUp then raiseSlip w.slip (raiseSlip r.slip (s.setPiu { sent with f2r := w.buffer }))
  else raiseSlip r.slip (s.setPiu sent)

/-- A front completion (R155). -/
def frontCompletion (received : Block) (s : State) : State :=
  if s.piu.held then s.setPiu { s.piu with fdo := silence } else completeFront received s

def execFrontCompletion (received : Block) (s : State) : Host.Outcome State Fault Refusal :=
  event (frontCompletion received) s

def execChimeEnd (s : State) : Host.Outcome State Fault Refusal := event chimeOver s

/-- A level of FTB held for 20 ms (R155). -/
def execFrontTalkButton (pressed : Bool) (s : State) : Host.Outcome State Fault Refusal :=
  event (fun s => s.setPiu { s.piu with talk := pressed }) s

/-- The 2 s of HOLD run out (R164). -/
def expirePinHold (s : State) : State :=
  match s.piu.pinMute with
  | .hold _ => s.setPiu { s.piu with pinMute := .off }
  | _ => s

def execPinHoldExpiry (s : State) : Host.Outcome State Fault Refusal := event expirePinHold s

/-! ## The rear link -/

/-- A valid frame makes a LOST link UP (R157). -/
def linkRear (s : State) : State :=
  if s.piu.rearUp then s else raise .rearBack (s.setPiu { s.piu with rearUp := true })

/-- The block of a valid frame arrives while RUNNING (R158). -/
def arriveRear (block : Block) (s : State) : State :=
  if s.piu.held then s
  else
    let w := s.piu.r2f.arrive block
    raiseSlip w.slip (s.setPiu { s.piu with r2f := w.buffer })

/-- Does a rear call begin a chime (R165)? -/
def chimes (s : State) : Bool :=
  s.piu.chimeOn && !s.piu.held && s.piu.floor == .closed && s.piu.pinMute == .off && s.piu.loop == .none
    && s.piu.phase == .none && s.piu.chime.isNone

/-- The call field of a valid frame (R165). -/
def takeCall (pressed : Bool) (s : State) : State :=
  let kept := s.setPiu { s.piu with lastCall := pressed }
  if pressed ∧ ¬ s.piu.lastCall then
    raise .rearCall (if chimes s then kept.setPiu { kept.piu with chime := some 125 } else kept)
  else kept

/-- The LOOP_UP run counts (R168). -/
def countsLoopUp (s : State) : Bool :=
  !s.piu.held && cabEmpty s && s.piu.loop == .none && s.piu.phase == .none

/-- The loop code of a valid frame, with the auto-loop setting on or off (R168, R210). DESIGN CHOICE, unsafe: the origin of a
loop that has ended stands until IC_LOOP, a REMOTE loop or a start sets it (log entry 16). -/
def takeLoopCode (code : Byte) (s : State) : State :=
  let up := if s.piu.autoLoop && countsLoopUp s && code == 1 then s.piu.upRun + 1 else 0
  let down := if s.piu.autoLoop && s.piu.loop != .none && s.piu.loopRemote && code == 2 then s.piu.downRun + 1 else 0
  let run := s.setPiu { s.piu with upRun := up, downRun := down }
  if up ≥ 25 then
    raise .remoteLoopOn (run.setPiu { run.piu with upRun := 0, loop := .rearRemote, loopRemote := true })
  else if down ≥ 25 then
    raise .remoteLoopOff (run.setPiu { run.piu with downRun := 0, loop := .none })
  else run

/-- The loop code of a control byte: bits 5 and 4 (R209). -/
def loopCode (control : Byte) : Byte := (control >>> 4) &&& 3

/-- A valid rear frame (R156 to R158, R165, R168, R170, R163). DESIGN CHOICE, unsafe: the call field is taken before the loop
code, so that a frame that is a rear call and the 25th LOOP_UP begins its chime, under which the loop then becomes REAR_REMOTE
(log entry 39). -/
def takeValidFrame (control : Byte) (block : Block) (s : State) : State :=
  let called := takeCall (control.getLsbD 7) (arriveRear block (linkRear s))
  let noted := called.setPiu { called.piu with lastStatus := (control &&& 0x0F).toNat }
  rearReply block (takeChecked block (takeLoopCode (loopCode control) noted))

/-- A damaged rear frame; while the link is LOST no reply is sent (R156, R157, R170). -/
def takeDamagedFrame (block : Block) (s : State) : State :=
  let counted := takeChecked block (s.setPiu { s.piu with damaged := satAdd max16 s.piu.damaged 1 })
  if s.piu.rearUp then rearReply block counted else counted

/-- A whole rear frame: its check byte tells a valid frame from a damaged one (R156). -/
def takeRearFrame (control : Byte) (block : Block) (check : Byte) (s : State) : State :=
  if rearCheckOk control block check then takeValidFrame control block s else takeDamagedFrame block s

/-- One byte received on RLI (R156): while the PIU hunts, a byte that is no sync byte is discarded; a frame that has begun takes
every byte, whatever it is and whenever it comes, and its 67th completes it. DESIGN CHOICE, unsafe: no time limit and no other
event but a supply failure or a start drops a frame that has begun (log entry 22). -/
def hearRearByte (s : State) (b : Byte) : State :=
  if s.piu.begun = [] ∧ b ≠ rearSync then s
  else
    match rearFrameOf (s.piu.begun ++ [b]) with
    | some f => takeRearFrame f.control f.block f.check (s.setPiu { s.piu with begun := [] })
    | none => s.setPiu { s.piu with begun := s.piu.begun ++ [b] }

/-- The PIU before the bytes of a row: no reply has been sent for them yet. -/
def beforeRow (s : State) : State := s.setPiu { s.piu with rlo := [] }

/-- The bytes received on RLI since the last row, one after the other: each frame that they complete is taken and answered
(R156; log entry 1). -/
def hearRear (bytes : List Byte) (s : State) : State := bytes.foldl hearRearByte (beforeRow s)

/-- The bytes of a row of the rear link: those before a byte, the byte, and those after it (log entry 1). -/
def heardBytes (before : List Byte) (sync : Byte) (after : List Byte) : List Byte := before ++ sync :: after

def execRearFrame (before : List Byte) (sync : Byte) (after : List Byte) (s : State) :
    Host.Outcome State Fault Refusal :=
  event (hearRear (heardBytes before sync after)) s

/-- A whole frame with a wrong check byte; one whose check byte is correct is a valid frame (R156). -/
def execDamagedFrame (before : List Byte) (sync : Byte) (after : List Byte) (s : State) :
    Host.Outcome State Fault Refusal :=
  event (hearRear (heardBytes before sync after)) s

/-- Does one of the bytes make the change named? -/
def rearChange (change : Piu → Piu → Bool) : List Byte → State → Bool
  | [], _ => false
  | b :: bytes, s => change s.piu (hearRearByte s b).piu || rearChange change bytes (hearRearByte s b)

/-- Bytes with a rear frame that makes the change named, or else nothing (log entry 5). -/
def rearFrameIf (change : Piu → Piu → Bool) (bytes : List Byte) (s : State) : State :=
  if rearChange change bytes (beforeRow s) then hearRear bytes s else s

/-- The LOOP_UP run reaches 25 at the frame (R168). -/
def execRemoteLoopOn (before : List Byte) (sync : Byte) (after : List Byte) (s : State) :
    Host.Outcome State Fault Refusal :=
  event (rearFrameIf (fun p q => p.loop == .none && q.loop == .rearRemote) (heardBytes before sync after)) s

/-- The LOOP_DOWN run reaches 25 at the frame (R168). -/
def execRemoteLoopOff (before : List Byte) (sync : Byte) (after : List Byte) (s : State) :
    Host.Outcome State Fault Refusal :=
  event (rearFrameIf (fun p q => p.loop != .none && q.loop == .none) (heardBytes before sync after)) s

/-- The reply to the frame is the 25th of ANNOUNCE (R169). -/
def execAnnounceEnd (before : List Byte) (sync : Byte) (after : List Byte) (s : State) :
    Host.Outcome State Fault Refusal :=
  event (rearFrameIf (fun p q => p.phase != .running && q.phase == .running) (heardBytes before sync after)) s

/-- The frame brings the consecutive errored blocks to 4 (R170). -/
def execTestSyncLost (before : List Byte) (sync : Byte) (after : List Byte) (s : State) :
    Host.Outcome State Fault Refusal :=
  event (rearFrameIf (fun p q => p.checker.code == 1 && q.checker.code == 0) (heardBytes before sync after)) s

/-- 50 ms without a valid frame (R157). -/
def execRearLinkLost (s : State) : Host.Outcome State Fault Refusal :=
  event (fun s => if s.piu.rearUp then loseRear s else s) s

/-! ## Requests -/

/-- IC_FLOOR (R161). -/
def serveIcFloor (mode : Nat) (s : State) : Served :=
  match floorOf mode with
  | some m => served [] (s.setPiu { s.piu with floor := m })
  | none => refuse .badField s

/-- IC_LOOP (R166). -/
def serveIcLoop (selection : Nat) (s : State) : Served :=
  match loopOf selection with
  | none => refuse .badField s
  | some l =>
    if s.piu.held ∨ occupied s ∨ s.piu.phase.active then refuse .notAllowed s
    else
      served []
        (s.setPiu { s.piu with loop := l, loopRemote := false, upRun := 0, downRun := 0, chime := none })

/-- IC_TEST_START (R169). -/
def serveIcTestStart (s : State) : Served :=
  if s.piu.phase.active then refuse .busy s
  else if s.piu.held ∨ occupied s ∨ ¬ s.piu.rearUp ∨ s.piu.loop ≠ .none then refuse .notAllowed s
  else
    served []
      (s.setPiu
        { s.piu with
          checked := 0, errored := 0, bitErrors := 0, insertion := false, loopDown := 0, upRun := 0, downRun := 0
          chime := none, gen := 0x7FFF, checker := .search 0 0, phase := .announce 0 })

/-- IC_TEST_STOP (R172). -/
def serveIcTestStop (s : State) : Served :=
  if s.piu.phase.active then
    served
      (be 1 s.piu.phase.code ++ be 1 s.piu.checker.code ++ be 4 s.piu.checked ++ be 4 s.piu.errored
        ++ be 4 s.piu.bitErrors)
      (s.setPiu (endTest s.piu))
  else refuse .notAllowed s

/-- IC_INSERT_ERROR (R171). -/
def serveIcInsertError (s : State) : Served :=
  if ¬ s.piu.phase.active then refuse .notAllowed s
  else if s.piu.insertion then refuse .busy s
  else served [] (s.setPiu { s.piu with insertion := true })

/-- Entering HELD (R173). -/
def holdIntercom (p : Piu) : Piu :=
  { endTest p with
    held := true
    r2f := { p.r2f.drain with slips := 0 }, f2r := { p.f2r.drain with slips := 0 }
    damaged := 0, checked := 0, errored := 0, bitErrors := 0, loop := .none, insertion := false
    checker := .search 0 0, upRun := 0, downRun := 0, chime := none }

/-- IC_HOLD (R173). -/
def serveIcHold (s : State) : Served :=
  if s.piu.held then refuse .notAllowed s else served [] (s.setPiu (holdIntercom s.piu))

/-- IC_CONFIG (R174, R203). -/
def serveIcConfig (depth offset autoLoop chime : Nat) (s : State) : Served :=
  if ¬ s.piu.held then refuse .notAllowed s
  else
    match flagOf autoLoop, flagOf chime with
    | some a, some c =>
      if (depth = 8 ∨ depth = 16) ∧ within 2 (depth - 2) offset then
        served [] (s.setPiu { s.piu with depth := depth, offset := offset, autoLoop := a, chimeOn := c })
      else refuse .badField s
    | _, _ => refuse .badField s

/-- A buffer set up empty in REFILL with a depth and offset, its slip count kept (R160, R175; log entry 41). -/
def ElasticBuffer.setUp (depth offset : Nat) (b : ElasticBuffer) : ElasticBuffer :=
  { ElasticBuffer.empty depth offset with slips := b.slips }

/-- IC_RELEASE (R175). -/
def serveIcRelease (s : State) : Served :=
  if s.piu.held then
    served []
      (s.setPiu
        { s.piu with
          held := false, r2f := s.piu.r2f.setUp s.piu.depth s.piu.offset
          f2r := s.piu.f2r.setUp s.piu.depth s.piu.offset })
  else refuse .notAllowed s

/-- The milliseconds left of a PIN mute in HOLD (R176). -/
def PinMute.left : PinMute → Option Nat
  | .hold n => some n
  | _ => none

/-- The frames sent of ANNOUNCE (R176). -/
def TestPhase.sent : TestPhase → Option Nat
  | .announce n => some n
  | _ => Option.none

/-- A buffer as IC_READ carries it after its level: state, slip count, warn flag (R176). -/
def ElasticBuffer.statusBytes (b : ElasticBuffer) : List Byte := flagByte b.flowing ++ be 2 b.slips ++ flagByte b.warn

/-- IC_READ (R176; log entry 13). DESIGN CHOICE, unsafe: the rear-to-front gate comes before the front-to-rear gate, and the time
remaining outside HOLD and the frame count outside ANNOUNCE are sent as absent (log entry 42). -/
def serveIcRead (s : State) : Served :=
  let p := s.piu
  served
    (be 1 p.depth ++ be 1 p.offset ++ flagByte p.autoLoop ++ flagByte p.chimeOn ++ flagByte p.held ++ be 1 p.floor.code
      ++ flagByte p.talk ++ flagByte (occupied s) ++ be 1 p.pinMute.code ++ optField 2 p.pinMute.left
      ++ flagByte p.chime.isSome
      ++ flagByte p.rearUp ++ flagByte p.lastCall ++ be 1 p.lastStatus ++ be 2 p.damaged
      ++ be 1 p.r2f.level ++ p.r2f.statusBytes ++ be 1 p.f2r.level ++ p.f2r.statusBytes
      ++ flagByte (rearToFrontOpen s) ++ flagByte (frontToRearOpen s)
      ++ be 1 p.loop.code ++ flagByte p.loopRemote ++ be 1 p.upRun ++ be 1 p.downRun
      ++ be 1 p.phase.code ++ optField 1 p.phase.sent ++ be 1 p.checker.code
      ++ be 4 p.checked ++ be 4 p.errored ++ be 4 p.bitErrors ++ flagByte p.insertion ++ be 1 p.loopDown) s

def execIcFloor (mode : Nat) (s : State) : Host.Outcome State Fault Refusal := request 0x68 (serveIcFloor mode) s
def execIcLoop (selection : Nat) (s : State) : Host.Outcome State Fault Refusal := request 0x69 (serveIcLoop selection) s
def execIcTestStart (s : State) : Host.Outcome State Fault Refusal := request 0x6A serveIcTestStart s
def execIcTestStop (s : State) : Host.Outcome State Fault Refusal := request 0x6B serveIcTestStop s
def execIcInsertError (s : State) : Host.Outcome State Fault Refusal := request 0x6C serveIcInsertError s
def execIcHold (s : State) : Host.Outcome State Fault Refusal := request 0x6D serveIcHold s
def execIcConfig (depth offset autoLoop chime : Nat) (s : State) : Host.Outcome State Fault Refusal :=
  request 0x6E (serveIcConfig depth offset autoLoop chime) s
def execIcRelease (s : State) : Host.Outcome State Fault Refusal := request 0x6F serveIcRelease s
def execIcRead (s : State) : Host.Outcome State Fault Refusal := request 0x70 serveIcRead s

end Sys2Proof.Machine
end

