-- ==== Sys2Proof/Machine/Metering.lean ====
section
/-! DEFINITION. The meanings of the metering input unit's commands: pulses, calibration, the k-factor and the seal
(chapter 1). -/

namespace Sys2Proof.Machine

/-! ## Pulses -/

/-- A wheel pulse (R1, R2). -/
def takePulse (m : Miu) : Miu :=
  let raw := if m.calActive then satAdd max32 m.rawPulses 1 else m.rawPulses
  if m.kValid then
    let total := m.remainder + 1000
    { m with
      rawPulses := raw, remainder := total % m.k
      odometer := satAdd max32 m.odometer (total / m.k), secondCount := satAdd max16 m.secondCount (total / m.k) }
  else { m with rawPulses := raw }

def execWheelPulse (s : State) : Host.Outcome State Fault Refusal := event (fun s => s.setMiu (takePulse s.miu)) s

/-! ## The seal -/

/-- An opening of the seal (R10). DESIGN CHOICE, unsafe: a calibration run that is ACTIVE at the opening, which only the initial
sample can find, stays ACTIVE (log entry 32). -/
def openSeal (s : State) : State :=
  let opened := raise .sealOpened
    (s.setMiu { s.miu with sealOpen := true, sealTaken := true, sealCount := satAdd max16 s.miu.sealCount 1 })
  if shiftRuns s then
    sealSuspension (post (fun r => { r with sealOpenings := satAdd max16 r.sealOpenings 1 }) opened)
  else opened

/-- An ACTIVE calibration run ends with CAL_ABORTED at a seal that is CLOSED (R7, R10). -/
def abortRun (s : State) : State :=
  if s.miu.calActive then raise .calAborted (s.setMiu { s.miu with calActive := false, rawPulses := 0 }) else s

/-- A closing of the seal; an ACTIVE calibration run ends (R7, R10). -/
def closeSeal (s : State) : State :=
  abortRun (raise .sealClosed (s.setMiu { s.miu with sealOpen := false }))

/-- A change to OPEN taken after the debounce; the seal has been taken since the start and is CLOSED (R9, R10). -/
def execSealOpened (s : State) : Host.Outcome State Fault Refusal :=
  event (fun s => if s.miu.sealTaken ∧ ¬ s.miu.sealOpen then openSeal s else s) s

/-- A change to CLOSED taken after the debounce (R9, R10). -/
def execSealClosed (s : State) : Host.Outcome State Fault Refusal :=
  event (fun s => if s.miu.sealTaken ∧ s.miu.sealOpen then closeSeal s else s) s

/-- The seal found CLOSED 50 ms after a start: no closing is reported (R9). A run begun while the seal state was still OPEN
ends, since a run exists only while it is OPEN (R10); that it raises CAL_ABORTED is log entry 32 (DESIGN CHOICE, unsafe). -/
def findClosed (s : State) : State := abortRun (s.setMiu { s.miu with sealOpen := false, sealTaken := true })

/-- The level of SEAL taken 50 ms after a start: high counts as an opening, low is not reported (R9, R10). What either level does
to a calibration run begun before it is log entry 32 (DESIGN CHOICE, unsafe): high leaves the run ACTIVE, low ends it. -/
def execSealInitialSample (high : Bool) (s : State) : Host.Outcome State Fault Refusal :=
  event
    (fun s =>
      if s.miu.sealTaken then s
      else if high then openSeal s
      else findClosed s)
    s

/-! ## Calibration and the k-factor -/

/-- The checks of CAL_BEGIN and SET_K: BUSY, SEALED, NOT_ALLOWED, in this order (R5, R8). -/
def metrologyRefusal (s : State) : Option Status :=
  if s.miu.calActive then some .busy
  else if ¬ s.miu.sealOpen then some .sealed
  else if shiftRuns s then some .notAllowed
  else none

/-- A k-factor in range (Table 1-1). -/
def kInRange (k : Nat) : Bool := within 500 50000 k

/-- A change of k (R6, R8). -/
def changeK (k : Nat) (m : Miu) : Miu :=
  { m with k := k, kValid := true, remainder := 0, calCounter := satAdd max16 m.calCounter 1 }

/-- The k-factor that a run over a length measures, to the nearest whole number, a half up (R6). -/
def measuredK (raw length : Nat) : Nat := (2000 * raw + length) / (2 * length)

/-- CAL_BEGIN (R5). -/
def serveCalBegin (s : State) : Served :=
  match metrologyRefusal s with
  | some st => refuse st s
  | none => served [] (s.setMiu { s.miu with calActive := true, rawPulses := 0 })

/-- CAL_END (R6). -/
def serveCalEnd (length : Nat) (s : State) : Served :=
  if ¬ s.miu.calActive then refuse .notAllowed s
  else if ¬ within 100 5000 length then refuse .badField s
  else
    let k := measuredK s.miu.rawPulses length
    if kInRange k then
      served (be 2 k) (raise .calDone (s.setMiu { changeK k s.miu with calActive := false, rawPulses := 0 }))
    else refuse .badField s

/-- CAL_ABORT (R7). -/
def serveCalAbort (s : State) : Served :=
  if s.miu.calActive then served [] (s.setMiu { s.miu with calActive := false, rawPulses := 0 })
  else refuse .notAllowed s

/-- SET_K (R8). -/
def serveSetK (k : Nat) (s : State) : Served :=
  match metrologyRefusal s with
  | some st => refuse st s
  | none => if kInRange k then served [] (s.setMiu (changeK k s.miu)) else refuse .badField s

def execCalBegin (s : State) : Host.Outcome State Fault Refusal := request 0x10 serveCalBegin s
def execCalEnd (length : Nat) (s : State) : Host.Outcome State Fault Refusal := request 0x11 (serveCalEnd length) s
def execCalAbort (s : State) : Host.Outcome State Fault Refusal := request 0x12 serveCalAbort s
def execSetK (k : Nat) (s : State) : Host.Outcome State Fault Refusal := request 0x13 (serveSetK k) s

end Sys2Proof.Machine
end

