-- ==== Sys2Proof/Machine/Status.lean ====
section
/-! DEFINITION. The requests that the console link controller answers itself: GET_NOTICE, SET_NOTICE_ENABLES, IDENTIFY and
STATUS (R189 to R192). -/

namespace Sys2Proof.Machine

/-! ## Notices -/

/-- The raised kind of highest priority (R189). -/
def firstRaised (n : NoticeSet) : Option NoticeKind := NoticeKind.all.find? fun k => (n.get k).raised

/-- The four link error counts (R185, Table 11-4). -/
def linkCounts (c : Clc) : List Byte := be 2 c.gapCount ++ be 2 c.overrunCount ++ be 2 c.lengthCount ++ be 2 c.checkCount

/-- The detail of a kind in GET_NOTICE (Table 11-4). -/
def noticeDetail (s : State) : NoticeKind → List Byte
  | .supply =>
    match s.clc.supplyDetail with
    | some d => optTime d.loss ++ d.ret.toBytes
    | none => absentField 12
  | .link => linkCounts s.clc
  | _ => []

/-- A kind handed out or disabled: no longer raised, no reasons (R189, R190). -/
def Notice.cleared (n : Notice) : Notice := { n with raised := false, reasons := 0 }

/-- The detail of SUPPLY dropped (R189, R190). -/
def dropDetail (s : State) : State := s.setClc { s.clc with supplyDetail := none }

/-- A kind handed out by GET_NOTICE (R189). -/
def handOut (k : NoticeKind) (s : State) : State :=
  let t := s.setNotice k (s.clc.notices.get k).cleared
  if k = .supply then dropDetail t else t

/-- GET_NOTICE (R189, Table 11-4). -/
def serveGetNotice (s : State) : Served :=
  match firstRaised s.clc.notices with
  | none => served (be 1 0 ++ be 2 0 ++ flagByte false ++ be 2 0) s
  | some k =>
    let n := s.clc.notices.get k
    served
      (be 1 k.code ++ be 2 (if k.isCondition then 0 else n.reasons.toNat)
        ++ flagByte (k.isCondition && n.holds)
        ++ be 2 (raisedWord (s.clc.notices.set k n.cleared)).toNat ++ noticeDetail s k)
      (handOut k s)

/-- A kind under a new enable flag (R190). -/
def Notice.enable (condition on : Bool) (n : Notice) : Notice :=
  if n.enabled && !on then { n.cleared with enabled := false }
  else if !n.enabled && on then { n with enabled := true, raised := condition && n.holds, reasons := 0 }
  else n

/-- The enable set replaced (R190). -/
def enableAll (enables : BitVec 16) (n : NoticeSet) : NoticeSet :=
  NoticeKind.all.foldl (fun m k => m.set k ((m.get k).enable k.isCondition (enables.getLsbD (k.code - 1)))) n

/-- SET_NOTICE_ENABLES (R190, R203). -/
def serveSetNoticeEnables (enables : BitVec 16) (s : State) : Served :=
  if enables.getLsbD 14 || enables.getLsbD 15 then refuse .badField s
  else
    let n := enableAll enables s.clc.notices
    let t := s.setClc { s.clc with notices := n }
    served (be 2 (enabledWord n).toNat ++ be 2 (raisedWord n).toNat)
      (if n.supply.enabled then t else dropDetail t)

def execGetNotice (s : State) : Host.Outcome State Fault Refusal := request 0x01 serveGetNotice s
def execSetNoticeEnables (enables : BitVec 16) (s : State) : Host.Outcome State Fault Refusal :=
  request 0x02 (serveSetNoticeEnables enables) s

/-! ## Identification -/

/-- The part name, eight characters (R191). -/
def partName : List Byte := [0x56, 0x41, 0x53, 0x42, 0x45, 0x4C, 0x32, 0x34]

/-- The revision letter, A to Z (R191; log entry 10). -/
def revisionByte : Byte := BitVec.ofNat 8 (0x41 + Config.revisionLetter.val)

/-- The retained-record format number of the part, 1 to 65,535 (R191; log entry 10). -/
def formatNumber : Nat := Config.formatNumberLess1.val + 1

/-- IDENTIFY (R191). -/
def serveIdentify (s : State) : Served := served (partName ++ [revisionByte] ++ be 2 formatNumber) s

def execIdentify (s : State) : Host.Outcome State Fault Refusal := request 0x03 serveIdentify s

/-! ## The digest (R192) -/

/-- The CLC's part. -/
def clcDigest (s : State) : List Byte :=
  be 2 (enabledWord s.clc.notices).toNat ++ be 2 (raisedWord s.clc.notices).toNat
    ++ flagByte s.clc.notices.alert.holds ++ flagByte s.clc.notices.displayStale.holds
    ++ flagByte s.clc.notices.authWaiting.holds ++ linkCounts s.clc ++ be 1 s.clc.owed.length

/-- The MIU's part. -/
def miuDigest (m : Miu) : List Byte :=
  be 2 m.k ++ flagByte m.kValid ++ be 4 m.odometer ++ flagByte m.sealOpen ++ be 2 m.sealCount ++ flagByte m.calActive
    ++ be 2 m.calCounter

/-- The CKU's and the TFS's parts. -/
def clockDigest (s : State) : List Byte :=
  s.cku.now.toBytes ++ flagByte s.cku.timeSet ++ flagByte s.tfs.valid ++ be 2 s.tfs.version ++ be 1 s.tfs.scheduled

/-- The FEN's part (R60). -/
def fenDigest (s : State) : List Byte :=
  (s.fen.slots.toList.flatMap fun o => be 1 ((o.map (·.state.code)).getD 0) ++ optField 2 (o.map (·.number)))
    ++ be 2 s.fen.counter ++ be 1 s.fen.seats ++ flagByte s.fen.sharing ++ be 1 (freeSeats s)

/-- The sequence number of the snapshot in a buffer. -/
def bufferSeq (v : Vbu) : BufName → Option Nat
  | .A => v.bufA.map (·.seq)
  | .B => v.bufB.map (·.seq)
  | .C => v.bufC.map (·.seq)

/-- The VBU's part (R79). -/
def vbuDigest (s : State) : List Byte :=
  presentField 2 (bufferSeq s.vbu s.vbu.ready) ++ presentField 2 (bufferSeq s.vbu s.vbu.console) ++ be 1 s.vbu.lagCount
    ++ be 1 s.vbu.lagLimit ++ flagByte (displayStale s) ++ be 2 s.vbu.overwritten

/-- The number of authorization entries in a state (R111). -/
def entriesIn (s : State) (st : AuthState) : Nat := (s.stu.queue.filter fun e => e.state == st).length

/-- The STU's and TLC's part (R111). -/
def payDigest (s : State) : List Byte :=
  flagByte s.tlc.up ++ be 1 s.tlc.unanswered ++ optField 1 (s.tlc.lastState.map (·.code)) ++ be 1 (sessionCode s.tlc.session)
    ++ optField 1 (s.tlc.session.map (·.slot.toNat)) ++ optField 2 (s.tlc.session.map (·.hire))
    ++ presentField 1 (s.tlc.session.bind (·.current)) ++ be 1 (messageCode s.tlc.slot)
    ++ be 1 (entriesIn s .queued) ++ be 1 (entriesIn s .handed) ++ be 1 (entriesIn s .superseded)
    ++ be 1 (entriesIn s .withdrawn) ++ flagByte (authWaiting s) ++ be 1 s.stu.deferred.length
    ++ be 1 (s.stu.deferred.filter (·.aged)).length ++ be 4 s.stu.floor ++ be 4 s.stu.ceiling

/-- A summary slot in the digest (R129). -/
def slotDigest : SummarySlot → List Byte
  | .held x f n => be 1 2 ++ presentField 2 (some x.record.number) ++ flagByte f ++ be 1 n
  | x => be 1 x.code ++ presentField 2 none ++ absentField 1 ++ absentField 1

/-- The SAU's part (R129). -/
def sauDigest (s : State) : List Byte :=
  be 1 s.sau.shift.code ++ be 2 s.sau.number ++ optField 4 (if shiftRuns s then some s.sau.live.driver else none)
    ++ slotDigest s.sau.slot0 ++ slotDigest s.sau.slot1

/-- The SGU's and RBC's part (R153). -/
def signDigest (s : State) : List Byte :=
  be 1 s.rbc.controller.code ++ flagByte s.sgu.latch
    ++ (match s.sgu.desired.availability with
      | .avail a => be 1 a.code
      | _ => be 1 0)
    ++ be 1 (s.rbc.modules.toList.filter (· == some .faulty)).length ++ be 1 s.sgu.list.length ++ be 1 s.rbc.arbLoss

/-- A buffer in the PIU's part (R176). -/
def bufferDigest (b : ElasticBuffer) : List Byte := flagByte b.flowing ++ be 2 b.slips ++ flagByte b.warn

/-- The PIU's part (R176). -/
def piuDigest (p : Piu) : List Byte :=
  flagByte p.held ++ be 1 p.floor.code ++ flagByte p.rearUp ++ be 1 p.loop.code ++ be 1 p.phase.code ++ be 1 p.checker.code
    ++ bufferDigest p.r2f ++ bufferDigest p.f2r ++ flagByte p.pinMute.inForce

/-- The SMR's part (R201). -/
def smrDigest (m : Smr) : List Byte :=
  be 1 m.lastStart.kind.code ++ optTime m.lastStart.times.loss ++ m.lastStart.times.ret.toBytes ++ be 2 formatNumber

/-- STATUS (R192). -/
def serveStatus (s : State) : Served :=
  served
    (clcDigest s ++ miuDigest s.miu ++ clockDigest s ++ fenDigest s ++ vbuDigest s ++ payDigest s ++ sauDigest s
      ++ signDigest s ++ piuDigest s.piu ++ smrDigest s.smr) s

def execStatus (s : State) : Host.Outcome State Fault Refusal := request 0x04 serveStatus s

end Sys2Proof.Machine
end

