-- ==== Sys2Proof/Machine/PayOps.lean ====
section
/-! DEFINITION. Operations of settlement that several commands share: AUTH_WAITING (R94), authorization entries (R93), the
terminal session (R85, R86), results (R101), the loss of the terminal link (R92) and the tenders of a good reply
(R87 to R90). -/

namespace Sys2Proof.Machine

/-! ## The authorization queue -/

/-- The queue replaced; the beginning or end of AUTH_WAITING is reported (R94). -/
def setQueue (q : List AuthEntry) (s : State) : State :=
  let t := s.setStu { s.stu with queue := q }
  if !authWaiting s && authWaiting t then condBegin .authWaiting t
  else if authWaiting s && !authWaiting t then condEnd .authWaiting t
  else t

/-- An entry that can still pay its hire (R93). -/
def AuthEntry.live (e : AuthEntry) : Bool := e.state == .queued || e.state == .handed

/-- The entry of an identifier. -/
def authEntry (s : State) (n : Nat) : Option AuthEntry := s.stu.queue.find? fun e => e.id == n

/-- The queue with the state of one entry changed (R93). -/
def markEntry (n : Nat) (st : AuthState) (q : List AuthEntry) : List AuthEntry :=
  q.map fun e => if e.id = n then { e with state := st } else e

/-- An entry leaves the queue, later entries closing up (section 5.4). -/
def removeEntry (n : Nat) (s : State) : State := setQueue (s.stu.queue.filter fun e => e.id != n) s

/-! ## The terminal session -/

/-- A message placed in the outgoing slot, replacing an undelivered one; the exchange in progress does not carry it
(R80, R83). -/
def placeMessage (m : TermMsg) (s : State) : State :=
  s.setTlc { s.tlc with
    slot := some m, exchange := s.tlc.exchange.map fun x => { x with carriesSlot := false } }

/-- The slot emptied. -/
def emptyMessage (s : State) : State :=
  s.setTlc { s.tlc with slot := none, exchange := s.tlc.exchange.map fun x => { x with carriesSlot := false } }

/-- The session is in PIN. -/
def Session.inPin (v : Session) : Bool :=
  match v.state with
  | .pin _ => true
  | _ => false

/-- The phase of an open session, directly or through PIN (R86); none in RESULT. -/
def Session.phase (v : Session) : Option PayPhase :=
  match v.state with
  | .inPhase p => some p
  | .pin p => some p
  | .result => none

/-- The session with its phase changed, in PIN its resume state (R86). -/
def Session.toPhase (p : PayPhase) (v : Session) : Session :=
  match v.state with
  | .inPhase _ => { v with state := .inPhase p }
  | .pin _ => { v with state := .pin p }
  | .result => v

/-- The session replaced; leaving PIN by any cause is reported to the PIU (R86, R164). -/
def leavePin (was : Option Session) (s : State) : State :=
  if was.any (·.inPin) then pinEnded s else s

/-- The session ends: its record is discarded (R85, R86). -/
def endSession (s : State) : State := leavePin s.tlc.session (s.setTlc { s.tlc with session := none })

/-- The session moves to RESULT with a final message in the slot, its current entry cleared (R91, R100, R101). -/
def toResult (m : TermMsg) (v : Session) (s : State) : State :=
  leavePin s.tlc.session
    (placeMessage m (s.setTlc { s.tlc with session := some { v with state := .result, current := none } }))

/-- The session present for an entry's slot and hire number and not in RESULT (R101). -/
def sessionFor (e : AuthEntry) (s : State) : Option Session :=
  s.tlc.session.filter fun v => v.slot == e.slot && v.hire == e.hire && v.state != .result

/-- A final result given for an entry (R101). -/
def giveResult (c : ResultCode) (approval : Option (List Byte)) (e : AuthEntry) (s : State) : State :=
  match sessionFor e s with
  | some v => toResult (.result c approval) v s
  | none => if c = .approved ∨ c = .approvedOffline then raise .resultUndelivered s else s

/-- A message is final: its delivery ends the session (Table 5-4, R100). -/
def TermMsg.isFinal : TermMsg → Bool
  | .showAmount _ _ _ => false
  | .result .refused _ => false
  | .result .busy _ => false
  | .result _ _ => true
  | .cancel => true

/-- The terminal link becomes LOST (R81, R92). -/
def loseTerminal (s : State) : State :=
  let lost := raise .terminalLost (s.setTlc { s.tlc with up := false })
  match s.tlc.session with
  | none => lost
  | some v =>
    let closed := endSession (emptyMessage lost)
    match v.phase with
    | some .showing => paymentFailure v.slot closed
    | some .awaiting => closed
    | none =>
      match s.tlc.slot with
      | some (.result .approved _) => raise .resultUndelivered closed
      | some (.result .approvedOffline _) => raise .resultUndelivered closed
      | _ => closed

/-- An exchange that got no good reply (R81). -/
def missReply (s : State) : State :=
  let n := satAdd 255 s.tlc.unanswered 1
  let t := s.setTlc { s.tlc with unanswered := n, exchange := none }
  if n = 5 ∧ s.tlc.up then loseTerminal t else t

/-! ## Good replies -/

/-- A TENDER record (section 5.3, R206). -/
structure TenderRecord where
  token   : List Byte
  echo    : Nat
  tip     : Nat
  pinUsed : Bool
deriving DecidableEq, Repr

/-- The body of a good reply (R206, R207). -/
structure StateReply where
  state     : TermState
  cancelled : Bool
  tender    : Option TenderRecord
deriving DecidableEq, Repr

/-- The body of a STATE frame, where it makes a good reply (R207). -/
def stateReply (body : List Byte) : Option StateReply :=
  match body with
  | st :: flags :: rest =>
    match termStateOf st.toNat with
    | none => none
    | some v =>
      if flags.getLsbD 0 then
        let record : TenderRecord := ⟨rest.take 16, beValue ((rest.drop 16).take 4), beValue ((rest.drop 20).take 4),
          rest.drop 24 != [0]⟩
        if rest.length = 25 ∧ record.echo ≤ maxAmount ∧ record.tip ≤ maxAmount then
          some ⟨v, flags.getLsbD 1, some record⟩
        else none
      else if rest = [] then some ⟨v, flags.getLsbD 1, none⟩
      else none
  | _ => none

/-- The frame received in a reply window, where it is a good reply: start byte, length in range, CRC, kind STATE, body
(R80, R206, R207). -/
def goodReplyBody (frame : List Byte) : Option StateReply :=
  match frame with
  | start :: hi :: lo :: kind :: rest =>
    let n := beValue [hi, lo]
    let body := rest.take (n - 1)
    if start = 0xD2 ∧ 1 ≤ n ∧ n ≤ 260 ∧ rest.length = n + 1 ∧ kind = 0x81
        ∧ rest.drop (n - 1) = be 2 (crc16 (hi :: lo :: kind :: body)).toNat then stateReply body
    else none
  | _ => none

/-- The message of the exchange is delivered; a final one ends the session (R82). -/
def deliver (carried : Bool) (s : State) : State :=
  match s.tlc.slot with
  | some m => if carried then (if m.isFinal then endSession (emptyMessage s) else emptyMessage s) else s
  | none => s

/-- The state value is recorded, and the session's PIN state follows it (R82, R86). -/
def takeTermState (v : TermState) (s : State) : State :=
  let s := s.setTlc { s.tlc with lastState := some v }
  match s.tlc.session with
  | none => s
  | some x =>
    match x.state with
    | .inPhase p =>
      if v = .pinEntry then pinBegun (s.setTlc { s.tlc with session := some { x with state := .pin p } }) else s
    | .pin p =>
      if v = .pinEntry then s else pinEnded (s.setTlc { s.tlc with session := some { x with state := .inPhase p } })
    | .result => s

/-- A tender refused with an advisory result (R87, R88). -/
def adviseTender (c : ResultCode) (s : State) : State := raise .tenderRefused (placeMessage (.result c none) s)

/-- A new authorization entry of a session, at the tail of the queue; it becomes the session's current entry, and an entry
it supersedes is marked in the same event (R87, R88, R93). -/
def createEntry (r : TenderRecord) (v : Session) (s : State) : State :=
  let n := nextId (s.stu.queue.map (·.id)) s.stu.lastId
  let e : AuthEntry :=
    { id := n, slot := v.slot, hire := v.hire, amount := v.amount, tip := r.tip, token := r.token, pinUsed := r.pinUsed
      state := .queued, deadline := 120000 }
  let kept :=
    match v.current with
    | some c => if v.phase = some .awaiting then markEntry c .superseded s.stu.queue else s.stu.queue
    | none => s.stu.queue
  let t := setQueue (kept ++ [e]) s
  (t.setStu { t.stu with lastId := n }).setTlc
    { t.tlc with session := some { v.toPhase .awaiting with current := some n } }

/-- A retap with the token of the current entry repeats a tender already taken (R88). -/
def repeatsTender (r : TenderRecord) (v : Session) (s : State) : Bool :=
  v.phase == some .awaiting && (v.current.bind (authEntry s)).any fun e => e.token == r.token

/-- A TENDER record taken (R87, R88, R89). -/
def takeTender (r : TenderRecord) (s : State) : State :=
  match s.tlc.session with
  | none => raise .tenderRefused s
  | some v =>
    if v.state = .result then raise .tenderRefused s
    else if repeatsTender r v s then s
    else if r.echo ≠ v.amount ∨ v.maxTip < r.tip then adviseTender .refused s
    else if 8 ≤ s.stu.queue.length then adviseTender .busy s
    else createEntry r v s

/-- A CANCELLED flag taken (R90). -/
def takeCancelled (s : State) : State :=
  match s.tlc.session with
  | none => s
  | some v =>
    if v.state = .result then s
    else
      let withdrawn :=
        match v.current with
        | some n => setQueue (markEntry n .withdrawn s.stu.queue) s
        | none => s
      raise .tenderCancelled (paymentFailure v.slot (emptyMessage (endSession withdrawn)))

/-- A good reply taken (R81, R82). -/
def takeReply (r : StateReply) (s : State) : State :=
  let carried := s.tlc.exchange.any (·.carriesSlot)
  let answered := s.setTlc { s.tlc with unanswered := 0, exchange := none }
  let linked := if s.tlc.up then answered else raise .terminalBack (answered.setTlc { answered.tlc with up := true })
  let told := takeTermState r.state (deliver carried linked)
  let tendered :=
    match r.tender with
    | some t => takeTender t told
    | none => told
  if r.cancelled then takeCancelled tendered else tendered

end Sys2Proof.Machine
end

