-- ==== Sys2Proof/Machine/Settlement.lean ====
section
/-! DEFINITION. The meanings of the commands of the settlement unit and the terminal link controller (chapter 5). -/

namespace Sys2Proof.Machine

/-! ## Starting and cancelling a card payment -/

/-- PRESENT_CARD (R54, R84); a hire with a due total of 0 presents the amount 0 (log entry 37). -/
def servePresentCard (slot : Nat) (s : State) : Served :=
  onHire slot true [.due]
    (fun k h =>
      if s.tlc.session.isSome then refuse .busy s
      else if ¬ s.tlc.up then refuse .notAllowed s
      else
        let amount := h.remaining
        let v : Session := ⟨.inPhase .showing, k, h.number, amount, amount / 2, none⟩
        let shown := placeMessage (.showAmount h.number amount (amount / 2))
          (s.setTlc { s.tlc with session := some v })
        served (be 4 amount ++ be 4 (amount / 2)) (compose (shown.setHire k (some { h with state := .paying })))) s

/-- The entries of a slot that can still pay its hire become WITHDRAWN (R91, R93). -/
def withdrawLive (k : Slot) (q : List AuthEntry) : List AuthEntry :=
  q.map fun e => if e.slot = k ∧ e.live then { e with state := .withdrawn } else e

/-- CANCEL_PAYMENT (R91). -/
def serveCancelPayment (slot : Nat) (s : State) : Served :=
  onHire slot true [.paying]
    (fun k _ =>
      match s.tlc.session.filter fun v => v.slot == k with
      | some v =>
        if v.state = .result then refuse .notAllowed s
        else served [] (paymentFailure k (toResult .cancel v (setQueue (withdrawLive k s.stu.queue) s)))
      | none => served [] (paymentFailure k (setQueue (withdrawLive k s.stu.queue) s))) s

def execPresentCard (slot : Nat) (s : State) : Host.Outcome State Fault Refusal := request 0x38 (servePresentCard slot) s
def execCancelPayment (slot : Nat) (s : State) : Host.Outcome State Fault Refusal :=
  request 0x39 (serveCancelPayment slot) s

/-! ## The authorization queue -/

/-- The part of an authorization entry that NEXT_AUTH hands out before the deadline (R95). -/
def AuthEntry.recordBytes (e : AuthEntry) : List Byte :=
  be 1 e.id ++ be 1 e.slot.toNat ++ be 2 e.hire ++ be 4 e.amount ++ be 4 e.tip ++ e.token ++ flagByte e.pinUsed

/-- NEXT_AUTH (R95). -/
def serveNextAuth (s : State) : Served :=
  match s.stu.queue.find? fun e => e.state == .queued with
  | none => refuse .notFound s
  | some e => served (e.recordBytes ++ be 3 e.deadline) (setQueue (markEntry e.id .handed s.stu.queue) s)

/-- AUTH_READ (R96). -/
def serveAuthRead (index : Nat) (s : State) : Served :=
  if 7 < index then refuse .badField s
  else
    match s.stu.queue[index]? with
    | none => refuse .notFound s
    | some e =>
      served (e.recordBytes ++ be 1 e.state.code ++ be 3 e.deadline ++ be 1 s.stu.queue.length) s

def execNextAuth (s : State) : Host.Outcome State Fault Refusal := request 0x3A serveNextAuth s
def execAuthRead (index : Nat) (s : State) : Host.Outcome State Fault Refusal := request 0x3C (serveAuthRead index) s

/-! ## Verdicts -/

/-- An approval code is 6 printable characters (R97). -/
def approvalOk (approval : Option (List Byte)) : Bool := approval.all fun t => t.length == 6 && t.all printable

/-- The checks of a VERDICT in the order of R97; a verdict that passes finds its entry HANDED. -/
def onVerdict (id : Nat) (fieldsOk : Bool) (f : AuthEntry → Served) (s : State) : Served :=
  if ¬ within 1 255 id ∨ ¬ fieldsOk then refuse .badField s
  else
    match authEntry s id with
    | none => refuse .notFound s
    | some e =>
      match e.state with
      | .superseded | .withdrawn => refuse .conflict s
      | .queued => refuse .notAllowed s
      | .handed => f e

/-- The reply of every OK VERDICT: the deferred id, absent but at DEFER, as a field with a presence byte.
DEDUCED, unsafe: R205 gives the OK replies of a kind one length and R106 alone names the id (log entry 33). -/
def verdictReply (deferredId : Option Nat) : List Byte := presentField 1 deferredId

/-- VERDICT APPROVE (R98; log entry 33). -/
def serveVerdictApprove (id : Nat) (approval : Option (List Byte)) (s : State) : Served :=
  onVerdict id (approvalOk approval)
    (fun e =>
      served (verdictReply none) (giveResult .approved approval e
        (removeEntry e.id (recordTender e.slot ⟨.card, e.amount, e.tip, []⟩ s)))) s

/-- VERDICT DECLINE (R99; log entry 33). -/
def serveVerdictDecline (id : Nat) (approval : Option (List Byte)) (s : State) : Served :=
  onVerdict id approval.isNone
    (fun e =>
      served (verdictReply none) (giveResult .declined none e (paymentFailure e.slot (removeEntry e.id s)))) s

/-- The deferred entry made of an authorization entry (R106). -/
def newDeferred (e : AuthEntry) (s : State) : Deferred :=
  { id := nextId (s.stu.deferred.map (·.id)) s.stu.lastDeferredId, shift := s.sau.number, hire := e.hire
    amount := e.amount, tip := e.tip, token := e.token, time := s.cku.now, aged := false }

/-- The checks of a DEFER in the order of R106; none when all pass. -/
def deferRefusal (e : AuthEntry) (s : State) : Option Status :=
  if s.stu.floor < e.amount + e.tip then some .limit
  else if s.stu.ceiling < s.sau.live.exposure + e.amount + e.tip then some .limit
  else if 32 ≤ s.stu.deferred.length then some .full
  else none

/-- VERDICT DEFER (R106, R122; log entry 33). -/
def serveVerdictDefer (id : Nat) (approval : Option (List Byte)) (s : State) : Served :=
  onVerdict id approval.isNone
    (fun e =>
      match deferRefusal e s with
      | some st => refuse st s
      | none =>
        let d := newDeferred e s
        let listed := s.setStu { s.stu with deferred := s.stu.deferred ++ [d], lastDeferredId := d.id }
        let posted := post (fun r => { r with exposure := satAdd maxAmount r.exposure (e.amount + e.tip) }) listed
        served (verdictReply (some d.id)) (giveResult .approvedOffline none e
          (removeEntry e.id (recordTender e.slot ⟨.cardDeferred, e.amount, e.tip, []⟩ posted)))) s

def execVerdictApprove (id : Nat) (approval : Option (List Byte)) (s : State) : Host.Outcome State Fault Refusal :=
  request 0x3B (serveVerdictApprove id approval) s
def execVerdictDecline (id : Nat) (approval : Option (List Byte)) (s : State) : Host.Outcome State Fault Refusal :=
  request 0x3B (serveVerdictDecline id approval) s
def execVerdictDefer (id : Nat) (approval : Option (List Byte)) (s : State) : Host.Outcome State Fault Refusal :=
  request 0x3B (serveVerdictDefer id approval) s

/-- The deadline of an entry reaches 0 (R102). -/
def expireEntry (id : Nat) (s : State) : State :=
  match authEntry s id with
  | none => s
  | some e =>
    if e.live then giveResult .timedOut none e (paymentFailure e.slot (removeEntry e.id s)) else removeEntry e.id s

def execAuthDeadlineExpiry (id : Nat) (s : State) : Host.Outcome State Fault Refusal := event (expireEntry id) s

/-! ## Cash and account tenders -/

/-- The reply of CASH_TENDER, every field in its place: tender amount, change, closed, new remaining (R104, R205).
DEDUCED, unsafe: R104 names the closed indication only where the tender closes the hire; the model takes it as a flag that is
always there and sends 0 at a partial tender (log entry 14). -/
def cashReply (tender change : Option Nat) (closed : Bool) (remaining : Option Nat) : List Byte :=
  optField 4 tender ++ optField 4 change ++ flagByte closed ++ optField 4 remaining

/-- CASH_TENDER (R104); the closed flag of a partial tender is 0 (log entry 14). DESIGN CHOICE, unsafe: a hire with a due total
of 0 stays open until a tender; any cash amount then closes it with a tender of 0, all of it change (log entry 37). -/
def serveCashTender (slot amount : Nat) (s : State) : Served :=
  onHire slot (within 1 maxAmount amount) [.due]
    (fun k h =>
      if h.remaining ≤ amount then
        let change := amount - h.remaining
        served (cashReply (some h.remaining) (if change = 0 then none else some change) true none)
          (recordTender k ⟨.cash, h.remaining, 0, []⟩ s)
      else if h.tenders.length < 2 then
        served (cashReply none none false (some (h.remaining - amount))) (recordTender k ⟨.cash, amount, 0, []⟩ s)
      else refuse .badField s) s

/-- ACCOUNT_TENDER (R105). -/
def serveAccountTender (slot : Nat) (account : List Byte) (amount : Nat) (s : State) : Served :=
  onHire slot (accountOk account && within 1 maxAmount amount) [.due]
    (fun k h =>
      if h.remaining < amount ∨ (2 ≤ h.tenders.length ∧ amount ≠ h.remaining) then refuse .badField s
      else
        served (be 4 (h.remaining - amount) ++ flagByte (h.remaining == amount))
          (recordTender k ⟨.account, amount, 0, account⟩ s)) s

def execCashTender (slot amount : Nat) (s : State) : Host.Outcome State Fault Refusal :=
  request 0x3D (serveCashTender slot amount) s
def execAccountTender (slot : Nat) (account : List Byte) (amount : Nat) (s : State) :
    Host.Outcome State Fault Refusal :=
  request 0x3E (serveAccountTender slot account amount) s

/-! ## The deferred list -/

/-- A late outcome added to the live shift record (R122). -/
def postLate (settled : Bool) (sum : Nat) (r : ShiftRecord) : ShiftRecord :=
  if settled then
    { r with
      lateSettledCount := satAdd max16 r.lateSettledCount 1, lateSettledSum := satAdd maxSum r.lateSettledSum sum }
  else
    { r with
      lateFailedCount := satAdd max16 r.lateFailedCount 1, lateFailedSum := satAdd maxSum r.lateFailedSum sum }

/-- DEFERRED_OUTCOME (R108, R122). -/
def serveDeferredOutcome (id outcome : Nat) (s : State) : Served :=
  match flagOf outcome with
  | none => refuse .badField s
  | some failed =>
    if ¬ within 1 255 id then refuse .badField s
    else if ¬ shiftRuns s then refuse .notAllowed s
    else
      match s.stu.deferred.find? fun d => d.id == id with
      | none => refuse .notFound s
      | some d =>
        served []
          (post (postLate (!failed) (d.amount + d.tip))
            (s.setStu { s.stu with deferred := s.stu.deferred.filter fun x => x.id != id }))

/-- DEFERRED_READ (R110; log entry 13). -/
def serveDeferredRead (index : Nat) (s : State) : Served :=
  if 31 < index then refuse .badField s
  else
    match s.stu.deferred[index]? with
    | none => refuse .notFound s
    | some d =>
      served
        (be 1 d.id ++ be 2 d.shift ++ be 2 d.hire ++ be 4 d.amount ++ be 4 d.tip ++ d.token ++ d.time.toBytes
          ++ flagByte d.aged ++ be 1 s.stu.deferred.length) s

def execDeferredOutcome (id outcome : Nat) (s : State) : Host.Outcome State Fault Refusal :=
  request 0x3F (serveDeferredOutcome id outcome) s
def execDeferredRead (index : Nat) (s : State) : Host.Outcome State Fault Refusal :=
  request 0x40 (serveDeferredRead index) s

/-! ## The terminal link -/

/-- An exchange begins with the message in the slot, or POLL (R80). -/
def beginExchange (s : State) : State :=
  if s.tlc.exchange.isSome then s
  else s.setTlc { s.tlc with exchange := some ⟨terminalFrame s.tlc.slot, s.tlc.slot.isSome⟩ }

/-- The reply window of the exchange in progress closes without a good reply (R81). -/
def execExchangeUnanswered (s : State) : Host.Outcome State Fault Refusal :=
  event (fun s => if s.tlc.exchange.isSome then missReply s else s) s

def execTerminalExchange (s : State) : Host.Outcome State Fault Refusal := event beginExchange s

/-- The fifth unanswered exchange in a row, with the link UP, makes the link LOST (R81, R92; log entry 5). -/
def execTerminalLinkLost (s : State) : Host.Outcome State Fault Refusal :=
  event (fun s => if s.tlc.exchange.isSome ∧ s.tlc.up ∧ s.tlc.unanswered = 4 then missReply s else s) s

/-- A frame received in the window: a good reply is taken, any other leaves the exchange unanswered; outside a window its
bytes are discarded (R80, R82, R207). -/
def execGoodReply (frame : List Byte) (s : State) : Host.Outcome State Fault Refusal :=
  event
    (fun s =>
      if s.tlc.exchange.isSome then
        match goodReplyBody frame with
        | some r => takeReply r s
        | none => missReply s
      else s) s

end Sys2Proof.Machine
end

