-- ==== Sys2Proof/Machine/Shift.lean ====
section
/-! DEFINITION. The meanings of the shift accounting unit's commands (chapter 6). -/

namespace Sys2Proof.Machine

/-- The SAU takes the oldest second report issued to it (R119; log entry 4). -/
def takeSauReport (s : State) : State :=
  match s.transit.sau with
  | [] => s
  | r :: rest => postReport r (s.setTransit { s.transit with sau := rest })

def execSauSecondReport (s : State) : Host.Outcome State Fault Refusal := event takeSauReport s

/-! ## Opening -/

/-- The shift parameters that SHIFT_OPEN carries (R114). -/
structure Opening where
  driver  : Nat
  seats   : Nat
  sharing : Bool
  lag     : Nat
  floor   : Nat
  ceiling : Nat
deriving DecidableEq, Repr

/-- Are the fields of SHIFT_OPEN in range (check 1 of Table 6-2a)? -/
def Opening.inRange (o : Opening) : Bool :=
  within 1 99999999 o.driver && within 1 6 o.seats && within 1 255 o.lag && o.floor ≤ maxAmount && o.ceiling ≤ maxAmount

/-- Checks 2 to 7 of Table 6-2a; none when all pass (R114). -/
def openRefusal (s : State) : Option Status :=
  if shiftRuns s then some .notAllowed
  else if ¬ s.tfs.valid then some .notAllowed
  else if ¬ s.miu.kValid then some .notAllowed
  else if s.miu.calActive then some .notAllowed
  else if s.miu.sealOpen then some .sealed
  else if s.sau.slot0 ≠ .free ∧ s.sau.slot1 ≠ .free then some .full
  else none

/-- The next shift number, wrapping from 65,535 to 1 (R115). -/
def nextShift (n : Nat) : Nat := if max16 ≤ n then 1 else n + 1

/-- The live record as an opening heads it (R115). -/
def openedRecord (o : Opening) (s : State) : ShiftRecord :=
  { ShiftRecord.zero with
    number := nextShift s.sau.number, driver := o.driver, openTime := s.cku.now, openOdometer := s.miu.odometer
    seats := o.seats, sharing := o.sharing, lagLimit := o.lag, floor := o.floor, ceiling := o.ceiling }

/-- The opening at the SAU: number, record, reserved slot, state (R115). -/
def openSau (o : Opening) (s : State) : Sau :=
  { s.sau with
    shift := .opened, number := nextShift s.sau.number, live := openedRecord o s
    slot0 := if s.sau.slot0 = .free then .reserved else s.sau.slot0
    slot1 := if s.sau.slot0 ≠ .free ∧ s.sau.slot1 = .free then .reserved else s.sau.slot1 }

/-- The VBU takes the opening: lag limit, reload, CONSOLE emptied (R75). -/
def openView (lag : Nat) (s : State) : State :=
  reloadLag (s.setVbu { s.vbu.put s.vbu.console none with lagLimit := lag })

/-- A shift opens: the SAU and the blocks that take the opening (R34, R75, R107, R115). -/
def openShift (o : Opening) (s : State) : State :=
  let accounted := s.setSau (openSau o s)
  let seated := accounted.setFen { accounted.fen with seats := o.seats, sharing := o.sharing, counter := 0 }
  let viewed := openView o.lag seated
  recomputeSign (viewed.setStu { viewed.stu with floor := o.floor, ceiling := o.ceiling })

/-- SHIFT_OPEN (R114, R115). -/
def serveShiftOpen (driver seats sharing lag floor ceiling : Nat) (s : State) : Served :=
  match flagOf sharing with
  | none => refuse .badField s
  | some sh =>
    let o : Opening := ⟨driver, seats, sh, lag, floor, ceiling⟩
    if ¬ o.inRange then refuse .badField s
    else
      match openRefusal s with
      | some st => refuse st s
      | none => served (be 2 (nextShift s.sau.number) ++ be 1 (if s.sau.slot0 = .free then 0 else 1)) (openShift o s)

/-! ## Break, resume and close -/

/-- The shift state changes and is handed to the SGU (R113). -/
def changeShift (st : ShiftState) (s : State) : State := recomputeSign (s.setSau { s.sau with shift := st })

/-- SHIFT_BREAK (R116). -/
def serveShiftBreak (s : State) : Served :=
  if s.sau.shift = .opened ∧ cabEmpty s then served [] (changeShift .onBreak s) else refuse .notAllowed s

/-- SHIFT_RESUME (R116). -/
def serveShiftResume (s : State) : Served :=
  if s.sau.shift = .onBreak then served [] (changeShift .opened s) else refuse .notAllowed s

/-- The conditions of SHIFT_CLOSE (R117). -/
def closeAllowed (s : State) : Bool :=
  shiftRuns s && cabEmpty s && s.tlc.session.isNone && s.stu.queue == []

/-- The live record with the close fields of steps 1 and 2 of R117. -/
def closedRecord (s : State) : ShiftRecord :=
  { s.sau.live with
    closeTime := some s.cku.now, closeOdometer := some s.miu.odometer
    outstandingCount := s.stu.deferred.length
    outstandingSum := min maxSum (s.stu.deferred.map fun d => d.amount + d.tip).sum }

/-- The summary of a close (R118). -/
def closingSummary (s : State) : Summary := ⟨closedRecord s, s.miu.sealCount, s.miu.calCounter, s.tfs.version⟩

/-- The order mark of a HELD slot set (log entry 15). -/
def SummarySlot.withOrder (n : Nat) : SummarySlot → SummarySlot
  | .held x f _ => .held x f n
  | x => x

/-- The SAU at a close: the reserved slot becomes HELD, later than the other (R117, R125). -/
def closeSau (s : State) : Sau :=
  if s.sau.slot0 = .reserved then
    { s.sau with
      shift := .closed, live := closedRecord s
      slot0 := .held (closingSummary s) false (if s.sau.slot1.isHeld then 1 else 0), slot1 := s.sau.slot1.withOrder 0 }
  else
    { s.sau with
      shift := .closed, live := closedRecord s
      slot0 := s.sau.slot0.withOrder 0, slot1 := .held (closingSummary s) false (if s.sau.slot0.isHeld then 1 else 0) }

/-- SHIFT_CLOSE (R117). -/
def serveShiftClose (s : State) : Served :=
  if closeAllowed s then
    served (be 2 s.sau.number ++ be 1 (if s.sau.slot0 = .reserved then 0 else 1))
      (raise .summaryReady (recomputeSign (s.setSau (closeSau s))))
  else refuse .notAllowed s

def execShiftOpen (driver seats sharing lagLimit offlineFloor offlineCeiling : Nat) (s : State) :
    Host.Outcome State Fault Refusal :=
  request 0x48 (serveShiftOpen driver seats sharing lagLimit offlineFloor offlineCeiling) s
def execShiftBreak (s : State) : Host.Outcome State Fault Refusal := request 0x49 serveShiftBreak s
def execShiftResume (s : State) : Host.Outcome State Fault Refusal := request 0x4A serveShiftResume s
def execShiftClose (s : State) : Host.Outcome State Fault Refusal := request 0x4B serveShiftClose s

/-! ## Reading -/

/-- Bytes 0 to 207 of a shift record; in TOTALS_READ the outstanding fields are absent (Table 11-6, section 11.5). -/
def ShiftRecord.toBytes (outstanding : Bool) (r : ShiftRecord) : List Byte :=
  be 2 r.number ++ be 4 r.driver ++ r.openTime.toBytes ++ be 4 r.openOdometer ++ optTime r.closeTime
    ++ optField 4 r.closeOdometer ++ be 1 r.seats ++ flagByte r.sharing ++ be 1 r.lagLimit
    ++ be 4 r.floor ++ be 4 r.ceiling
    ++ be 6 r.shiftDistance ++ be 6 r.hiredDistance ++ be 6 r.vacantDistance ++ be 6 r.rejectedDistance
    ++ be 2 r.hiresClosed ++ be 2 r.hiresPaid ++ be 2 r.hiresWrittenOff ++ be 5 r.faresSum ++ be 5 r.topUpsSum
    ++ r.extrasSums.flatMap (be 5) ++ be 5 r.dueSum
    ++ be 5 r.cashNet ++ be 5 r.cardApproved ++ be 5 r.cardDeferred ++ be 5 r.account ++ be 5 r.writtenOff
    ++ be 5 r.tipsApproved ++ be 5 r.tipsDeferred ++ be 4 r.exposure
    ++ be 4 r.stepsCharged ++ be 4 r.stepsForgone ++ be 5 r.forgoneAmount
    ++ be 2 r.lateSettledCount ++ be 5 r.lateSettledSum ++ be 2 r.lateFailedCount ++ be 5 r.lateFailedSum
    ++ be 2 r.staleEpisodes ++ be 2 r.interruptions ++ be 4 r.interruptedSecs ++ be 2 r.sealOpenings
    ++ be 4 r.breakMinutes
    ++ (if outstanding then be 1 r.outstandingCount ++ be 5 r.outstandingSum else absentField 6)

/-- The 214 bytes of a summary (Table 11-6). -/
def Summary.toBytes (x : Summary) : List Byte :=
  x.record.toBytes true ++ be 2 x.sealCount ++ be 2 x.calCounter ++ be 2 x.setVersion

/-- The slot a selector chooses: 0, 1, or for OLDEST the HELD slot of the earlier close order (R126). -/
def chosenSlot (s : State) (selector : Nat) : Option Nat :=
  match selector with
  | 0 => some 0
  | 1 => some 1
  | 0xFF =>
    match s.sau.slot0, s.sau.slot1 with
    | .held _ _ m, .held _ _ n => some (if m ≤ n then 0 else 1)
    | .held _ _ _, _ => some 0
    | _, _ => some 1
  | _ => none

/-- A summary slot by its index. -/
def summarySlot (s : State) (n : Nat) : SummarySlot := if n = 0 then s.sau.slot0 else s.sau.slot1

/-- A summary slot replaced. -/
def State.setSummarySlot (s : State) (n : Nat) (x : SummarySlot) : State :=
  if n = 0 then s.setSau { s.sau with slot0 := x } else s.setSau { s.sau with slot1 := x }

/-- SUMMARY_FETCH (R126, section 11.5). -/
def serveSummaryFetch (selector : Nat) (s : State) : Served :=
  match chosenSlot s selector with
  | none => refuse .badField s
  | some n =>
    match summarySlot s n with
    | .held x _ order => served (be 1 n ++ x.toBytes) (s.setSummarySlot n (.held x true order))
    | _ => refuse .notFound s

/-- SUMMARY_RELEASE (R126). -/
def serveSummaryRelease (index : Nat) (s : State) : Served :=
  if 1 < index then refuse .badField s
  else
    match summarySlot s index with
    | .held _ true _ =>
      let freed := s.setSummarySlot index .free
      served [] (freed.setSummarySlot (1 - index) ((summarySlot freed (1 - index)).withOrder 0))
    | _ => refuse .notAllowed s

/-- TOTALS_READ (R127, section 11.5). -/
def serveTotalsRead (s : State) : Served :=
  if shiftRuns s then
    served (be 1 s.sau.shift.code ++ { s.sau.live with closeTime := none, closeOdometer := none }.toBytes false) s
  else refuse .notAllowed s

def execSummaryFetch (selector : Nat) (s : State) : Host.Outcome State Fault Refusal :=
  request 0x4C (serveSummaryFetch selector) s
def execSummaryRelease (index : Nat) (s : State) : Host.Outcome State Fault Refusal :=
  request 0x4D (serveSummaryRelease index) s
def execTotalsRead (s : State) : Host.Outcome State Fault Refusal := request 0x4E serveTotalsRead s

end Sys2Proof.Machine
end

