-- ==== Sys2Proof/Machine/Sign.lean ====
section
/-! DEFINITION. The meanings of the commands of the sign unit and the roof bus controller (chapter 7). -/

namespace Sys2Proof.Machine

/-! ## Requests -/

/-- SIGN_CONFIG (R131, R203). -/
def serveSignConfig (availability seats text alert : Nat) (s : State) : Served :=
  if s.rbc.controller ≠ .held then refuse .notAllowed s
  else
    match addressOf availability, addressOf seats, addressOf text, addressOf alert with
    | some a, some b, some c, some d =>
      if addressesDistinct [a, b, c, d] then
        let roles : Roles (Option Nat) := ⟨a, b, c, d⟩
        served []
          ((s.setSgu { s.sgu with roles := roles }).setRbc
            { s.rbc with modules := unknownModules roles, acked := unknownContents, probe := noProbes })
      else refuse .badField s
    | _, _, _, _ => refuse .badField s

/-- SIGN_TEXT (R134). -/
def serveSignText (text : List Byte) (s : State) : Served :=
  if 24 < text.length ∨ ¬ text.all printable then refuse .badField s
  else served [] (recomputeSign (s.setSgu { s.sgu with text := text }))

/-- ALERT_CLEAR (R136). -/
def serveAlertClear (s : State) : Served :=
  if s.rbc.alrmActive then refuse .notAllowed s
  else if s.sgu.latch then
    served [] (recomputeSign (condEnd .alert (s.setSgu { s.sgu with latch := false })))
  else served [] s

/-- SIGN_HOLD (R147, R151; log entry 18). -/
def serveSignHold (s : State) : Served :=
  match s.rbc.controller with
  | .running =>
    if driving s.rbc then begun (s.setRbc { s.rbc with controller := .holding }) else served [] (enterHeld s)
  | .lampTest =>
    if s.rbc.holdPending then refuse .notAllowed s else begun (s.setRbc { s.rbc with holdPending := true })
  | _ => refuse .notAllowed s

/-- SIGN_RELEASE (R152). -/
def serveSignRelease (s : State) : Served :=
  if s.rbc.controller = .held then
    served [] (fullRefresh (s.setRbc { s.rbc with controller := .running, busBusy := true, idleOnly := true }))
  else refuse .notAllowed s

/-- LAMP_TEST (R148). -/
def serveLampTest (s : State) : Served :=
  match s.rbc.controller with
  | .running =>
    begun (beginLamp (s.setRbc
      { s.rbc with
        controller := .lampTest, holdPending := false, phase := some .allOn, lampTries := 0, lampRetry := none
        litLeft := 0, lampCut := false }))
  | .lampTest => refuse .busy s
  | _ => refuse .notAllowed s

/-- A content as SIGN_READ carries it (Table 11-1). -/
def Content.readBytes : Content → List Byte
  | .avail a => be 1 a.code
  | .seats n => be 1 n
  | .text t => countedText t
  | .alert on => flagByte on

/-- The part of SIGN_READ for one role: desired, acknowledged or unknown, module state (R153, R205; log entry 13). -/
def roleBytes (s : State) (r : Role) : List Byte :=
  (s.sgu.desired.get r).readBytes
    ++ (match s.rbc.acked.get r with
      | none => [0xFF]
      | some c => c.readBytes)
    ++ optField 1 ((s.rbc.modules.get r).map (·.code))

/-- An entry's hold-off has not passed (R139). -/
def UpdateEntry.held (e : UpdateEntry) : Bool := e.holdOff.any (0 < ·)

/-- An entry of the update list as SIGN_READ carries it (R153; log entry 13). -/
def UpdateEntry.toBytes (e : UpdateEntry) : List Byte :=
  be 1 e.role.code ++ be 1 e.tries ++ flagByte e.probe ++ flagByte e.inFlight ++ flagByte e.held

/-- SIGN_READ (R153; log entry 13). The present level of ALRM is a byte of 1 for high, which is inactive, and 0 for low, which
is active. DESIGN CHOICE, unsafe: the spec gives that level no code (log entry 36). -/
def serveSignRead (s : State) : Served :=
  served
    ((s.sgu.roles.toList.flatMap (optField 1)) ++ Role.all.flatMap (roleBytes s)
      ++ be 1 s.sgu.list.length ++ s.sgu.list.flatMap UpdateEntry.toBytes
      ++ be 1 s.rbc.controller.code ++ flagByte s.rbc.holdPending ++ optField 1 (s.rbc.phase.map (·.code))
      ++ flagByte s.rbc.busBusy ++ be 1 s.rbc.arbLoss ++ flagByte s.sgu.latch ++ flagByte (!s.rbc.alrmActive)
      ++ countedText s.sgu.text ++ countedText s.sgu.label) s

def execSignConfig (availability seats text alert : Nat) (s : State) : Host.Outcome State Fault Refusal :=
  request 0x58 (serveSignConfig availability seats text alert) s
def execSignText (text : List Byte) (s : State) : Host.Outcome State Fault Refusal := request 0x59 (serveSignText text) s
def execAlertClear (s : State) : Host.Outcome State Fault Refusal := request 0x5A serveAlertClear s
def execSignHold (s : State) : Host.Outcome State Fault Refusal := request 0x5B serveSignHold s
def execSignRelease (s : State) : Host.Outcome State Fault Refusal := request 0x5C serveSignRelease s
def execLampTest (s : State) : Host.Outcome State Fault Refusal := request 0x5D serveLampTest s
def execSignRead (s : State) : Host.Outcome State Fault Refusal := request 0x5E serveSignRead s

/-! ## The alarm -/

/-- A taken activation: the latch rises, ALERT begins, the image is recomputed, a lamp test is cut (R135, R150). -/
def riseLatch (s : State) : State :=
  if s.sgu.latch then s
  else cutLampTest (recomputeSign (condBegin .alert (s.setSgu { s.sgu with latch := true })))

/-- Is ALRM low after what it does? -/
def alarmLow : AlarmInput → Bool
  | .inactive => false
  | .active => true
  | .heldActive => true

/-- The present level of ALRM is that of the pin in every supply state, so that a start finds it as it is (R136, R154;
log entry 12). -/
def followAlarm (input : AlarmInput) (s : State) : State := s.setRbc { s.rbc with alrmActive := alarmLow input }

/-- What ALRM does: the level is followed, and an activation held for 200 ms is taken (R135, R136; log entry 12). -/
def takeAlarm (input : AlarmInput) (s : State) : State :=
  match input with
  | .inactive => followAlarm input s
  | .active => followAlarm input s
  | .heldActive => riseLatch (followAlarm input s)

/-- While the supply is absent only the level is followed: no activation is taken (R135, R154, R194; log entry 12). -/
def execAlarmActivation (input : AlarmInput) (s : State) : Host.Outcome State Fault Refusal :=
  .next (if powered s then takeAlarm input s else followAlarm input s)

/-! ## The bus -/

/-- The RBC sees a START of another device (R139). -/
def execForeignStart (s : State) : Host.Outcome State Fault Refusal :=
  event (fun s => s.setRbc { s.rbc with busBusy := true }) s

/-- The bus becomes FREE; after a start and on leaving HELD, and during a recovery, only 5 ms of both lines high free it. A
transfer of the RBC's own rules out a foreign STOP and idle lines (R139, R147). -/
def freeBus (cause : BusFreeCause) (s : State) : State :=
  if driving s.rbc then s
  else
    match cause with
    | .stopSeen =>
      if s.rbc.idleOnly ∨ s.rbc.recovering then s else beginLamp (s.setRbc { s.rbc with busBusy := false })
    | .linesHigh => beginLamp (s.setRbc { s.rbc with busBusy := false, idleOnly := false, recovering := false })

def execBusFree (cause : BusFreeCause) (s : State) : Host.Outcome State Fault Refusal := event (freeBus cause) s

/-- An entry that may be tried: its hold-off has passed or is none (R139). -/
def UpdateEntry.eligible (e : UpdateEntry) : Bool := !e.held

/-- A transfer begins for the first eligible entry in list order (R139, R140). -/
def beginTransfer (s : State) : State :=
  if s.rbc.controller = .running ∧ s.rbc.flight = none ∧ s.rbc.busBusy = false ∧ s.rbc.recovering = false then
    match s.sgu.list.find? UpdateEntry.eligible with
    | none => s
    | some e =>
      startTransfer (.content e.role e.content) (contentBytes s e.role e.content)
        (s.setSgu { s.sgu with list := s.sgu.list.map fun x => if x.role = e.role then { x with inFlight := true } else x })
  else s

def execTransferBegin (s : State) : Host.Outcome State Fault Refusal := event beginTransfer s

/-- Every byte of the content transfer in flight was acknowledged (R141). -/
def transferSuccess (s : State) : State :=
  match s.rbc.flight with
  | some (.content r c) => if driving s.rbc then succeedContent r c s else s
  | _ => s

def execTransferSuccess (s : State) : Host.Outcome State Fault Refusal := event transferSuccess s

/-- A byte of the transfer in flight was not acknowledged; the RBC's STOP ends it (R140, R142, R149). -/
def transferFailed (s : State) : State := if driving s.rbc then failTransfer false s else s

def execTransferFailed (s : State) : Host.Outcome State Fault Refusal := event transferFailed s

/-- Would a failure of the transfer in flight be the third try of an entry that is no probe (R142)? -/
def faultAhead (s : State) : Bool :=
  match s.rbc.flight with
  | some (.content r _) => driving s.rbc && (entryOf s.sgu.list r).any fun e => !e.probe && decide (2 ≤ e.tries)
  | _ => false

/-- The third failed try of an entry (R142; log entry 5). -/
def execModuleFault (s : State) : Host.Outcome State Fault Refusal :=
  event (fun s => if faultAhead s then transferFailed s else s) s

/-- The hold-off of a role's entry ends (R142). -/
def execHoldOffExpiry (role : Nat) (s : State) : Host.Outcome State Fault Refusal :=
  event
    (fun s =>
      match roleOf role with
      | some r =>
        s.setSgu { s.sgu with list := s.sgu.list.map fun e => if e.role = r then { e with holdOff := none } else e }
      | none => s) s

/-- The probe timer of a FAULTY role reaches 0 (R144). -/
def expireProbe (r : Role) (s : State) : State :=
  if (s.rbc.controller = .running ∨ s.rbc.controller = .lampTest) ∧ s.rbc.modules.get r = some .faulty
      ∧ (s.rbc.probe.get r).isSome then
    let stopped := s.setRbc { s.rbc with probe := s.rbc.probe.set r (some 0) }
    if s.sgu.list.any (·.role == r) then stopped
    else stopped.setSgu { s.sgu with list := enqueue r (s.sgu.desired.get r) true s.sgu.list }
  else s

def execProbeTimerExpiry (role : Nat) (s : State) : Host.Outcome State Fault Refusal :=
  event
    (fun s =>
      match roleOf role with
      | some r => expireProbe r s
      | none => s) s

/-! ## Arbitration and stalls -/

/-- A 1 bit of the RBC's own reads low (R145, R146, R151). -/
def loseArbitration (s : State) : State :=
  if driving s.rbc then
    let n := satAdd 255 s.rbc.arbLoss 1
    let lost := s.setRbc { s.rbc with arbLoss := n, arbWait := true, busBusy := true }
    let told := if n = 8 then raise .arbLimit lost else lost
    if s.rbc.controller = .holding then enterHeld told else told
  else s

def execArbitrationLost (s : State) : Host.Outcome State Fault Refusal := event loseArbitration s

/-- The eighth loss in a row (R146; log entry 5). -/
def execArbLimit (s : State) : Host.Outcome State Fault Refusal :=
  event (fun s => if s.rbc.arbLoss = 7 then loseArbitration s else s) s

/-- The lost transfer begins again, with its entry's content as it then stands (R145). -/
def restartTransfer (s : State) : State :=
  if s.rbc.arbWait ∧ s.rbc.busBusy = false then
    match s.rbc.flight with
    | some (.content r c) =>
      let now := ((entryOf s.sgu.list r).map (·.content)).getD c
      startTransfer (.content r now) (contentBytes s r now) s
    | some .lampAllOn => startTransfer .lampAllOn (busTransfer 0 0x02 []) s
    | some .lampNormal => startTransfer .lampNormal (busTransfer 0 0x03 []) s
    | none => s
  else s

def execArbitrationRestart (s : State) : Host.Outcome State Fault Refusal := event restartTransfer s

/-- The clock stays low for more than 25 ms in a transfer of the RBC's own: a failed try, STALL, and the recovery, unless
the controller goes to HELD (R147, R151). -/
def stallClock (s : State) : State :=
  if driving s.rbc then failTransfer true (raise .stall (s.setRbc { s.rbc with recovering := true })) else s

def execClockStall (s : State) : Host.Outcome State Fault Refusal := event stallClock s

/-- The clock line is high after a stall: nine pulses and a STOP, and the bus is FREE (R147). -/
def recoverBus (s : State) : State :=
  if s.rbc.recovering then beginLamp (s.setRbc { s.rbc with recovering := false, busBusy := false }) else s

def execBusRecovery (s : State) : Host.Outcome State Fault Refusal := event recoverBus s

/-! ## The lamp test -/

/-- Every byte of the lamp transfer in flight was acknowledged, and it ends at its STOP (R148, R149). -/
def lampTransferEnd (s : State) : State :=
  match s.rbc.flight with
  | some .lampAllOn | some .lampNormal =>
    if driving s.rbc then nextLampPhase (endLossRun (clearFlight false s)) else s
  | _ => s

def execLampTransferEnd (s : State) : Host.Outcome State Fault Refusal := event lampTransferEnd s

/-- 50 ms after a failed lamp transfer it is tried again (R149). -/
def execLampTransferRetry (s : State) : Host.Outcome State Fault Refusal :=
  event
    (fun s => if s.rbc.lampRetry.isSome then beginLamp (s.setRbc { s.rbc with lampRetry := none }) else s) s

/-- The 3 s of LIT end (R148). -/
def execLampLitEnd (s : State) : Host.Outcome State Fault Refusal :=
  event (fun s => if s.rbc.controller = .lampTest ∧ s.rbc.phase = some .lit then lampRestore s else s) s

end Sys2Proof.Machine
end

