-- ==== Sys2Proof/Machine/Supply.lean ====
section
/-! DEFINITION. The meanings of the supply monitor's commands: supply failure, supply return with its two kinds of start, and
RESTART (chapter 10). -/

namespace Sys2Proof.Machine

/-! ## Supply failure (R194) -/

/-- The FEN takes one event that was on its way to it. -/
def deliverFen (s : State) (e : FenEvent) : State :=
  match e with
  | .report r => applyReport r s
  | .bandChange n => applyBandChange n s
  | .confirm entries => applyConfirmation entries s

/-- The FEN and the SAU take the events issued to them before the failure (R183, R194; log entry 6). -/
def drainEvents (s : State) : State :=
  let taken := s.transit.fen.foldl deliverFen (s.setTransit { s.transit with fen := [] })
  s.transit.sau.foldl (fun t r => postReport r t) (taken.setTransit { taken.transit with sau := [] })

/-- The partial report of the open second (R4). -/
def partialReport (s : State) : SecondReport := ⟨s.cku.now, s.miu.secondCount, .part⟩

/-- The MIU closes the second with a partial report; the FEN takes it and suspends the RUNNING hires, the SAU posts it
(R4, R40, R119). DESIGN CHOICE, unsafe: the suspension causes no composition, since the VBU stops (R61, R194; log entry 38). -/
def closePartial (s : State) : State :=
  let r := partialReport s
  postReport r
    (suspendRunning (applyReport r (s.setMiu { s.miu with secondCount := 0, calActive := false, rawPulses := 0 })))

/-- What the other blocks drop when they stop (R194). What they do not drop stands until the next start (log entry 29).
The compositions that the failure finds not yet made go with the VBU's buffers and count no sequence number (log entry 38). -/
def dropWorking (s : State) : State :=
  let a := s.setClc { s.clc with rx := .hunt, bytes := [], buffer := none, answer := none, owed := [] }
  let b := a.setTlc { a.tlc with session := none, slot := none, exchange := none }
  let c := b.setRbc
    { b.rbc with
      flight := none, sending := [], arbWait := false, recovering := false, phase := none, holdPending := false
      lampTries := 0, lampRetry := none, litLeft := 0, lampCut := false
      controller := if b.rbc.controller = .lampTest then .held else b.rbc.controller }
  let d := c.setPiu
    { c.piu with
      r2f := c.piu.r2f.drain, f2r := c.piu.f2r.drain, loop := .none, phase := .none, chime := none, fdo := silence
      begun := [], rlo := [] }
  (d.setVbu { d.vbu with bufA := none, bufB := none, bufC := none }).setTransit
    { fen := [], sau := [], tfs := [], vbu := [] }

/-- The SMR after the blocks have stopped: loss time, closing mark and integrity word in one write, unless the supply died
before it (R194, R195). -/
def markStore (written : Bool) (now : CalTime) (m : Smr) : Smr :=
  if written then
    { m with
      supply := .down, restart := none, loss := if m.closing then m.loss else some now, closing := true, agrees := true }
  else { m with supply := .down, restart := none }

/-- A supply failure (R194). -/
def failSupply (markWritten : Bool) (s : State) : State :=
  let stopped := dropWorking (closePartial (drainEvents s))
  stopped.setSmr (markStore markWritten stopped.cku.now stopped.smr)

/-- The levels of RESETN and of the supply, which ATTN follows (R188; log entry 34). -/
def setPins (p : SupplyPins) (s : State) : State := s.setSmr { s.smr with pins := p }

/-- A supply failure and the levels it leaves (R188, R194). -/
def loseSupply (l : SupplyLoss) (s : State) : State := setPins l.pins (failSupply l.markWritten s)

/-- A supply failure is taken while the part runs; while it is DOWN the row gives the levels alone (R188, R194; log
entry 34). -/
def execSupplyFailure (loss : SupplyLoss) (s : State) : Host.Outcome State Fault Refusal :=
  .next (if powered s then loseSupply loss s else setPins loss.pins s)

/-! ## The starts of the blocks -/

/-- The CLC starts afresh and raises the start's own reason with its detail (R193). -/
def startClc (r : Reason) (times : StartTimes) (s : State) : State :=
  raise r (s.setClc
    { rx := .hunt, bytes := [], buffer := none, answer := none, owed := []
      gapCount := 0, overrunCount := 0, lengthCount := 0, checkCount := 0
      notices := .clear, supplyDetail := some times })

/-- The MIU at a restore or blank start (R16, Table 1-4). -/
def startMiu (restore : Bool) (s : State) : State :=
  let m := { s.miu with
    remainder := 0, secondCount := 0, calActive := false, rawPulses := 0, sealOpen := true, sealTaken := false }
  s.setMiu
    (if restore then m
    else { m with k := 500, kValid := false, odometer := 0, calCounter := 0, sealCount := 0 })

/-- The STU reports AUTH_WAITING if a QUEUED entry exists (R112). -/
def reportWaiting (s : State) : State := if authWaiting s then condBegin .authWaiting s else s

/-- The STU at a restore or blank start (R112). -/
def startStu (restore : Bool) (s : State) : State :=
  if restore then
    reportWaiting (s.setStu { s.stu with queue := s.stu.queue.map fun e => { e with deadline := 120000 } })
  else s.setStu { queue := [], lastId := 0, deferred := [], lastDeferredId := 0, floor := 0, ceiling := 0 }

/-- The TLC at every start (R112). -/
def startTlc (s : State) : State :=
  s.setTlc { up := false, unanswered := 0, lastState := none, slot := none, session := none, exchange := none }

/-- The TFS at a restore or blank start (R32, Table 2-8). -/
def startTfs (restore : Bool) (s : State) : State :=
  let a := if restore then s else s.setTfs { s.tfs with active := .empty, version := 0, valid := false }
  let b := a.setTfs { a.tfs with staged := .empty, point := presentPoint a }
  b.setTfs { b.tfs with scheduled := scheduledAt (activeSet b) b.tfs.point }

/-- Does a PAYING hire have an entry that can still pay it (R112)? -/
def hasLiveEntry (k : Slot) (h : Hire) (s : State) : Bool :=
  s.stu.queue.any fun e => e.slot == k && e.hire == h.number && e.live

/-- A PAYING hire that the STU reports without an entry returns to DUE with PAYMENT_FAILED (R63). -/
def releasePaying (s : State) (k : Slot) : State :=
  match s.hire k with
  | some h =>
    if h.state = .paying ∧ ¬ hasLiveEntry k h s then
      raise (.paymentFailed k) (s.setHire k (some { h with state := .due }))
    else s
  | none => s

/-- The FEN at a restore or blank start, before the schedule refresh (R63). -/
def startFen (restore : Bool) (s : State) : State :=
  if restore then Slot.all.foldl releasePaying s
  else s.setFen { slots := ⟨none, none, none, none⟩, counter := 0, seats := 4, sharing := false }

/-- The schedule refresh handed to the FEN (R32, R48). -/
def refreshFen (s : State) : State := applyBandChange s.tfs.scheduled s

/-- The SAU at a blank start (R130). -/
def startSau (restore : Bool) (s : State) : State :=
  if restore then s
  else s.setSau { shift := .closed, number := 0, live := .zero, slot0 := .free, slot1 := .free }

/-- The VBU at a restore or blank start (R77). -/
def startVbu (restore : Bool) (s : State) : State :=
  startView (if restore then s else s.setVbu { s.vbu with lagCount := 0, lagLimit := 20, seq := 0 })

/-- The SGU and RBC at a restore or blank start (R154, R199). -/
def startSgu (restore : Bool) (s : State) : State :=
  startSign (if restore then s else s.setSgu { s.sgu with roles := ⟨none, none, none, none⟩, latch := false })

/-- The PIU at a restore or blank start (R174, R177). -/
def startPiu (restore : Bool) (s : State) : State :=
  startIntercom (if restore then s else s.setPiu { s.piu with depth := 8, offset := 4, autoLoop := true, chimeOn := true })

/-- An interruption posted to the SAU (R124). -/
def postInterruption (loss : Option CalTime) (ret : CalTime) (s : State) : State :=
  post
    (fun r =>
      { r with
        interruptions := satAdd max16 r.interruptions 1
        interruptedSecs := satAdd max32 r.interruptedSecs
          ((loss.map fun l => ret.seconds - l.seconds).getD 0) })
    s

/-- The first event of a start, at the SMR: the closing mark is cleared; a restore start posts the interruption, a blank
start writes format number 0 (R198, R199, R201). -/
def beginStart (restore : Bool) (times : StartTimes) (s : State) : State :=
  let last : LastStart := ⟨if restore then .restore else .blank, times⟩
  if restore then
    postInterruption times.loss times.ret (s.setSmr { s.smr with closing := false, lastStart := last })
  else s.setSmr { s.smr with closing := false, format := .zero, lastStart := last }

/-- The integrity word over the records as the start leaves them; a blank start drops the loss time (R195, R199). -/
def sealStore (restore : Bool) (s : State) : State :=
  s.setSmr { s.smr with agrees := true, loss := if restore then s.smr.loss else none }

/-- The last write of a blank start, the part's format number, and the end of the start (R196, R199). -/
def endStart (s : State) : State := s.setSmr { s.smr with format := .own, supply := .up }

/-- The steps of a restore or blank start, in an order that Table 10-2 allows (log entry 21). -/
def startSteps (restore : Bool) (times : StartTimes) : List (State → State) :=
  [beginStart restore times, startClc (if restore then .restored else .storeLost) times, startMiu restore,
    startStu restore, startTlc, startTfs restore, startFen restore, refreshFen, startSau restore, startVbu restore,
    startSgu restore, startPiu restore, sealStore restore, endStart]

/-- Steps taken one after the other. -/
def runSteps (l : List (State → State)) (s : State) : State := l.foldl (fun t f => f t) s

/-! ## Supply return (R196 to R199) -/

/-- What the time without supply did to the store (R195, R197). -/
def damageStore (d : StoreDamage) (m : Smr) : Smr :=
  match d with
  | .intact => m
  | .vbakFailed => { m with closing := false, format := .zero, agrees := false }
  | .partWritten => { m with agrees := false }

/-- The CKU's check of its count (R11, R196). -/
def checkClock (crystalStopped : Bool) (c : Cku) : Cku := if crystalStopped then ⟨.epoch, false⟩ else c

/-- The three checks of the store (R197). -/
def storeStands (m : Smr) : Bool := m.closing && m.format == .own && m.agrees

/-- The part at a supply return, before its start: STARTING, RESETN high and the supply present, the clock checked, the store
as it is found (R196). -/
def enterStart (damage : StoreDamage) (crystalStopped : Bool) (s : State) : State :=
  (s.setCku (checkClock crystalStopped s.cku)).setSmr { damageStore damage s.smr with supply := .starting, pins := ⟨true, true⟩ }

/-- The times of the start's SUPPLY reason: the loss time is absent at a blank start (R196, R198, R199). -/
def startTimes (restore : Bool) (s : State) : StartTimes := ⟨if restore then s.smr.loss else none, s.cku.now⟩

/-- A supply return and its start; a start may be cut by a supply failure after some of its steps, and the
supply may die before that failure's mark is written (R195 to R199; log entry 21). -/
def returnSupply (damage : StoreDamage) (crystalStopped : Bool) (cut : Option StartCut) (s : State) : State :=
  let t := enterStart damage crystalStopped s
  let restore := storeStands t.smr
  let steps := startSteps restore (startTimes restore t)
  match cut with
  | none => runSteps steps t
  | some c => loseSupply c.loss (runSteps (steps.take c.steps) t)

def execSupplyReturn (damage : StoreDamage) (crystalStopped : Bool) (cut : Option StartCut) (s : State) :
    Host.Outcome State Fault Refusal :=
  .next (if s.smr.supply = .down then returnSupply damage crystalStopped cut s else s)

/-! ## RESTART (R200) -/

/-- RESTART (R200). -/
def serveRestart (s : State) : Served :=
  if occupied s ∨ s.tlc.session.isSome then refuse .notAllowed s
  else served [] (s.setSmr { s.smr with restart := some s.cku.now })

def execRestart (s : State) : Host.Outcome State Fault Refusal := request 0x05 serveRestart s

/-- The RESTART start: the link-facing blocks start afresh, the others stand (R200). Its return time is the clock at the row
RESTART_START, taken as the moment the start begins. DESIGN CHOICE, unsafe: STARTING is entered at the earlier row ANSWER_END,
and a whole second between the two shifts the time (log entry 35). -/
def restartBlocks (taken : CalTime) (s : State) : State :=
  let times : StartTimes := ⟨some taken, s.cku.now⟩
  let t := startIntercom (startSign (startTlc (startView (reportWaiting (startClc .restarted times s)))))
  t.setSmr { t.smr with supply := .up, restart := none, lastStart := ⟨.restart, times⟩ }

def execRestartStart (s : State) : Host.Outcome State Fault Refusal :=
  event
    (fun s =>
      match s.smr.restart with
      | some taken => if s.smr.supply = .starting then restartBlocks taken s else s
      | none => s) s

end Sys2Proof.Machine
end

