-- ==== Sys2Proof/Machine/Tariffs.lean ====
section
/-! DEFINITION. The meanings of the tariff store's commands: evaluation of the schedule, staging, commit and reading
(chapter 2). -/

namespace Sys2Proof.Machine

/-! ## The schedule -/

/-- The TFS takes the oldest minute event issued to it (R27; log entry 4). -/
def takeMinuteEvent (s : State) : State :=
  match s.transit.tfs with
  | [] => s
  | p :: rest => evaluateSchedule ((s.setTransit { s.transit with tfs := rest }).setTfs { s.tfs with point := p })

def execScheduleEvaluation (s : State) : Host.Outcome State Fault Refusal := event takeMinuteEvent s

/-! ## Staging -/

/-- The staged set replaced. -/
def State.setStaged (s : State) (t : TariffSet) : State := s.setTfs { s.tfs with staged := t }

/-- The shared step amount, rounded down, at least 1 (R17). -/
def sharedStepOf (stepAmount percent : Nat) : Nat := max 1 (stepAmount * percent / 100)

/-- Are the fields of a tariff record in range (Table 2-2)? -/
def Tariff.inRange (t : Tariff) : Bool :=
  within 1 8 t.number && t.flagFall ≤ 99999 && within 1 9999 t.stepAmount && within 10 5000 t.stepDistance
    && within 5 600 t.stepWait && within 1 40 t.crossover && within 50 100 t.sharedPercent && t.minimumFare ≤ 99999
    && labelOk t.label

/-- The records with one written under its number, ascending (R17). -/
def writeTariff (t : Tariff) (l : List Tariff) : List Tariff :=
  (l.filter fun x => x.number < t.number) ++ t :: l.filter fun x => t.number < x.number

/-- STAGE_TARIFF SET (R17). -/
def serveStageTariffSet (t : Tariff) (s : State) : Served :=
  if t.inRange then
    served (be 4 t.sharedStep) (s.setStaged { s.tfs.staged with tariffs := writeTariff t s.tfs.staged.tariffs })
  else refuse .badField s

/-- STAGE_TARIFF REMOVE (R18); the shared step amount of a SET's reply is absent (R205; log entry 33). -/
def serveStageTariffRemove (n : Nat) (s : State) : Served :=
  if ¬ within 1 8 n then refuse .badField s
  else if (s.tfs.staged.tariff? n).isNone then refuse .notFound s
  else
    served (absentField 4)
      (s.setStaged { s.tfs.staged with tariffs := s.tfs.staged.tariffs.filter fun t => t.number != n })

/-- Band order: ascending start minute, then ascending first day class (section 2.1). -/
def Band.before (a b : Band) : Bool :=
  a.start < b.start || (a.start == b.start && firstDay a.days < firstDay b.days)

/-- A staged band of the same start minute and exactly the same day set (R19, R20). -/
def Band.sameKey (days : Byte) (start : Nat) (b : Band) : Bool := b.start == start && b.days == days

/-- STAGE_BAND ADD (R19). -/
def serveStageBandAdd (b : Band) (s : State) : Served :=
  let bands := s.tfs.staged.bands
  let put (l : List Band) : Served :=
    served (be 1 (l.findIdx (Band.sameKey b.days b.start))) (s.setStaged { s.tfs.staged with bands := l })
  if b.days = 0 ∨ 1439 < b.start ∨ ¬ within 1 8 b.tariff then refuse .badField s
  else if bands.any (Band.sameKey b.days b.start) then
    put (bands.map fun x => if x.sameKey b.days b.start then { x with tariff := b.tariff } else x)
  else if bands.any fun x => x.start == b.start && daysOverlap x.days b.days then refuse .badField s
  else if 16 ≤ bands.length then refuse .full s
  else put ((bands.filter fun x => x.before b) ++ b :: bands.filter fun x => !x.before b)

/-- STAGE_BAND REMOVE (R20); the index of an ADD's reply is absent (R205; log entry 33). -/
def serveStageBandRemove (days : Byte) (start : Nat) (s : State) : Served :=
  let bands := s.tfs.staged.bands
  if days = 0 ∨ 1439 < start then refuse .badField s
  else if ¬ bands.any (Band.sameKey days start) then refuse .notFound s
  else
    served (absentField 1) (s.setStaged { s.tfs.staged with bands := bands.filter fun x => !x.sameKey days start })

/-- STAGE_HOLIDAY ADD (R21). -/
def serveStageHolidayAdd (d : Date) (s : State) : Served :=
  let l := s.tfs.staged.holidays
  if ¬ d.inRange then refuse .badField s
  else if l.contains d then served [] s
  else if 24 ≤ l.length then refuse .full s
  else
    served []
      (s.setStaged { s.tfs.staged with holidays := (l.filter fun x => x.before d) ++ d :: l.filter fun x => d.before x })

/-- STAGE_HOLIDAY REMOVE (R21). -/
def serveStageHolidayRemove (d : Date) (s : State) : Served :=
  if ¬ d.inRange then refuse .badField s
  else if s.tfs.staged.holidays.contains d then
    served [] (s.setStaged { s.tfs.staged with holidays := s.tfs.staged.holidays.filter fun x => x != d })
  else refuse .notFound s

/-- The extras catalogue with an entry written under its code, ascending (R22). -/
def writeExtra (e : ExtraEntry) (l : List ExtraEntry) : List ExtraEntry :=
  (l.filter fun x => x.code < e.code) ++ e :: l.filter fun x => e.code < x.code

/-- STAGE_EXTRA SET (R22). -/
def serveStageExtraSet (code kind amount maxCount : Nat) (label : List Byte) (s : State) : Served :=
  match extraKindOf kind with
  | none => refuse .badField s
  | some k =>
    if within 1 8 code && within 1 50000 amount && within 1 8 maxCount && labelOk label then
      served []
        (s.setStaged { s.tfs.staged with extras := writeExtra ⟨code, k, amount, maxCount, label⟩ s.tfs.staged.extras })
    else refuse .badField s

/-- STAGE_EXTRA REMOVE (R22). -/
def serveStageExtraRemove (code : Nat) (s : State) : Served :=
  if ¬ within 1 8 code then refuse .badField s
  else if (s.tfs.staged.extra? code).isNone then refuse .notFound s
  else served [] (s.setStaged { s.tfs.staged with extras := s.tfs.staged.extras.filter fun e => e.code != code })

/-- CLEAR_STAGED EMPTY (R23). -/
def serveClearStagedEmpty (s : State) : Served := served [] (s.setStaged .empty)

/-- CLEAR_STAGED COPY_ACTIVE (R23). -/
def serveClearStagedCopyActive (s : State) : Served :=
  if s.tfs.valid then served [] (s.setStaged s.tfs.active) else refuse .notAllowed s

def execStageTariffSet (number flagFall stepAmount stepDistance stepWait crossover sharedPercent minimumFare : Nat)
    (label : List Byte) (s : State) : Host.Outcome State Fault Refusal :=
  request 0x18
    (serveStageTariffSet
      ⟨number, flagFall, stepAmount, stepDistance, stepWait, crossover, sharedPercent, minimumFare, label,
        sharedStepOf stepAmount sharedPercent⟩) s
def execStageTariffRemove (number : Nat) (s : State) : Host.Outcome State Fault Refusal :=
  request 0x18 (serveStageTariffRemove number) s
def execStageBandAdd (days : Byte) (start tariff : Nat) (s : State) : Host.Outcome State Fault Refusal :=
  request 0x19 (serveStageBandAdd ⟨days, start, tariff⟩) s
def execStageBandRemove (days : Byte) (start : Nat) (s : State) : Host.Outcome State Fault Refusal :=
  request 0x19 (serveStageBandRemove days start) s
def execStageHolidayAdd (year month day : Nat) (s : State) : Host.Outcome State Fault Refusal :=
  request 0x1A (serveStageHolidayAdd ⟨year, month, day⟩) s
def execStageHolidayRemove (year month day : Nat) (s : State) : Host.Outcome State Fault Refusal :=
  request 0x1A (serveStageHolidayRemove ⟨year, month, day⟩) s
def execStageExtraSet (code kind amount maxCount : Nat) (label : List Byte) (s : State) :
    Host.Outcome State Fault Refusal :=
  request 0x1B (serveStageExtraSet code kind amount maxCount label) s
def execStageExtraRemove (code : Nat) (s : State) : Host.Outcome State Fault Refusal :=
  request 0x1B (serveStageExtraRemove code) s
def execClearStagedEmpty (s : State) : Host.Outcome State Fault Refusal := request 0x1C serveClearStagedEmpty s
def execClearStagedCopyActive (s : State) : Host.Outcome State Fault Refusal := request 0x1C serveClearStagedCopyActive s

/-! ## Commit -/

/-- The index of the first band that names a tariff not in the set (Table 2-4). -/
def missingBand (t : TariffSet) : Option Nat := t.bands.findIdx? fun b => (t.tariff? b.tariff).isNone

/-- Commit readiness: the cause bytes of NO_TARIFF_1 or BAND_TARIFF_MISSING, none when READY (R24, R31, R205). -/
def commitCause (t : TariffSet) : Option (List Byte) :=
  if (t.tariff? 1).isNone then some (be 1 1 ++ [0xFF])
  else (missingBand t).map fun n => be 1 2 ++ be 1 n

/-- COMMIT_TARIFFS (R24, R25). -/
def serveCommitTariffs (s : State) : Served :=
  if ¬ s.miu.sealOpen then refuse .sealed s
  else if shiftRuns s then refuse .notAllowed s
  else if occupied s then refuse .notAllowed s
  else
    match commitCause s.tfs.staged with
    | some cause => ⟨.badField, cause, s⟩
    | none =>
      let version := satAdd max16 s.tfs.version 1
      served (be 2 version)
        (handLabel
          (evaluateSchedule (s.setTfs { s.tfs with active := s.tfs.staged, version := version, valid := true })))

def execCommitTariffs (s : State) : Host.Outcome State Fault Refusal := request 0x1D serveCommitTariffs s

/-! ## Reading -/

/-- The set a selector names (section 2.5). -/
def selectedSet (s : State) : Nat → Option TariffSet
  | 0 => some (activeSet s)
  | 1 => some s.tfs.staged
  | _ => none

/-- A tariff record in the order of Table 2-2, its amounts and its step distance in 4 bytes (R30, R202). DEDUCED, unsafe: the
order is log entry 13, and so is taking the 2 bytes of Table 11-8 for the request alone. -/
def Tariff.toBytes (t : Tariff) : List Byte :=
  be 1 t.number ++ be 4 t.flagFall ++ be 4 t.stepAmount ++ be 4 t.stepDistance ++ be 2 t.stepWait ++ be 1 t.crossover
    ++ be 1 t.sharedPercent ++ be 4 t.minimumFare ++ countedText t.label ++ be 4 t.sharedStep

/-- A band (R30). -/
def Band.toBytes (b : Band) : List Byte := [b.days] ++ be 2 b.start ++ be 1 b.tariff

/-- A catalogue entry (R31). -/
def ExtraEntry.toBytes (e : ExtraEntry) : List Byte :=
  be 1 e.code ++ be 1 e.kind.code ++ be 4 e.amount ++ be 1 e.maxCount ++ countedText e.label

/-- The numbers of tariffs, bands, holidays and extras of a set (R31). -/
def TariffSet.counts (t : TariffSet) : List Byte :=
  be 1 t.tariffs.length ++ be 1 t.bands.length ++ be 1 t.holidays.length ++ be 1 t.extras.length

/-- A read of one record of a set: BAD_FIELD for the selector or the key, NOT_FOUND where there is no record (R30, R31). -/
def serveRead (selector : Nat) (keyOk : Bool) (record : TariffSet → Option (List Byte)) (s : State) : Served :=
  match selectedSet s selector with
  | none => refuse .badField s
  | some t =>
    if keyOk then
      match record t with
      | some bytes => served bytes s
      | none => refuse .notFound s
    else refuse .badField s

/-- READ_TARIFF (R30). -/
def serveReadTariff (selector n : Nat) (s : State) : Served :=
  serveRead selector (within 1 8 n) (fun t => (t.tariff? n).map Tariff.toBytes) s

/-- READ_BAND (R30). -/
def serveReadBand (selector n : Nat) (s : State) : Served :=
  serveRead selector (n ≤ 15) (fun t => t.bands[n]?.map fun b => b.toBytes ++ be 1 t.bands.length) s

/-- READ_HOLIDAY (R31). -/
def serveReadHoliday (selector n : Nat) (s : State) : Served :=
  serveRead selector (n ≤ 23) (fun t => t.holidays[n]?.map fun d => d.toBytes ++ be 1 t.holidays.length) s

/-- READ_EXTRA (R31). -/
def serveReadExtra (selector code : Nat) (s : State) : Served :=
  serveRead selector (within 1 8 code) (fun t => (t.extra? code).map ExtraEntry.toBytes) s

/-- The readiness of a set: the cause that COMMIT_TARIFFS would carry, or READY (R31, R205). -/
def readiness (t : TariffSet) : List Byte := (commitCause t).getD (be 1 0 ++ [0xFF])

/-- READ_SET (R31, R205). One layout for both sets: valid flag, version, the four counts, scheduled tariff, minute and day
class of the evaluation point, readiness; the fields that R31 gives only for the other set are absent. DEDUCED, unsafe: R205
gives the OK replies of a kind one length (log entry 33). -/
def serveReadSet (selector : Nat) (s : State) : Served :=
  match selector with
  | 0 =>
    served
      (flagByte s.tfs.valid ++ presentField 2 (some s.tfs.version) ++ (activeSet s).counts ++ be 1 s.tfs.scheduled
        ++ be 2 s.tfs.point.minute ++ be 1 s.tfs.point.dayClass.code ++ absentField 2) s
  | 1 =>
    served
      (absentField 1 ++ presentField 2 none ++ s.tfs.staged.counts ++ absentField 1 ++ absentField 2 ++ absentField 1
        ++ readiness s.tfs.staged) s
  | _ => refuse .badField s

def execReadTariff (selector number : Nat) (s : State) : Host.Outcome State Fault Refusal :=
  request 0x1E (serveReadTariff selector number) s
def execReadBand (selector index : Nat) (s : State) : Host.Outcome State Fault Refusal :=
  request 0x1F (serveReadBand selector index) s
def execReadHoliday (selector index : Nat) (s : State) : Host.Outcome State Fault Refusal :=
  request 0x20 (serveReadHoliday selector index) s
def execReadExtra (selector code : Nat) (s : State) : Host.Outcome State Fault Refusal :=
  request 0x21 (serveReadExtra selector code) s
def execReadSet (selector : Nat) (s : State) : Host.Outcome State Fault Refusal := request 0x22 (serveReadSet selector) s

end Sys2Proof.Machine
end

