-- ==== Sys2Proof/Machine/View.lean ====
section
/-! DEFINITION. The meanings of the view buffer unit's commands: composition, TAKE_VIEW, SHOWN and the onset of
DISPLAY_STALE (chapter 4). -/

namespace Sys2Proof.Machine

/-- The VBU takes the oldest composition caused (R67; log entry 4). -/
def takeComposition (s : State) : State :=
  match s.transit.vbu with
  | [] => s
  | entries :: rest =>
    (s.setTransit { s.transit with vbu := rest }).setVbu (s.vbu.compose s.cku.now entries)

def execComposition (s : State) : Host.Outcome State Fault Refusal := event takeComposition s

/-- The oldest second report on its way to the FEN, in the state in which the FEN takes it (log entry 4). -/
def firstReport (s : State) : Option (SecondReport × State) :=
  (takeFirst FenEvent.report? s.transit.fen).map fun p => (p.1, s.setTransit { s.transit with fen := p.2 })

/-- Would the FEN's taking of its oldest report bring the display lag count to 0 (R74)? -/
def onsetAhead (s : State) : Bool :=
  match firstReport s with
  | some (r, t) => decide (0 < s.vbu.lagCount) && (applyReport r t).vbu.lagCount == 0
  | none => false

/-- The onset of DISPLAY_STALE is the FEN's taking of the report whose charged step brings the count to 0 (R45, R74;
log entry 5). -/
def execDisplayStaleOnset (s : State) : Host.Outcome State Fault Refusal :=
  event
    (fun s =>
      match firstReport s with
      | some (r, t) => if onsetAhead s then applyReport r t else s
      | none => s) s

/-! ## TAKE_VIEW and SHOWN -/

/-- A snapshot entry (Table 11-5). -/
def ViewEntry.toBytes (e : ViewEntry) : List Byte :=
  be 2 e.number ++ be 1 e.state.code ++ be 1 e.tariff ++ be 4 e.fare ++ be 4 e.extrasTotal ++ optField 4 e.dueTotal
    ++ optField 4 e.remaining ++ be 4 e.hiredDistance ++ be 4 e.waitSeconds ++ flagByte e.shared

/-- The presence byte of a snapshot: bit s for the entry of slot s (section 11.4). -/
def presenceByte (f : Four (Option ViewEntry)) : Nat :=
  (if f.s0.isSome then 1 else 0) + (if f.s1.isSome then 2 else 0) + (if f.s2.isSome then 4 else 0)
    + (if f.s3.isSome then 8 else 0)

/-- A snapshot (section 11.4). -/
def Snapshot.toBytes (x : Snapshot) : List Byte :=
  be 2 x.seq ++ x.time.toBytes ++ be 1 (presenceByte x.entries)
    ++ (x.entries.toList.filterMap id).flatMap ViewEntry.toBytes

/-- A snapshot in READY moves to CONSOLE, and the buffer that was CONSOLE becomes READY, emptied (R68). -/
def Vbu.take (v : Vbu) : Vbu :=
  if (v.get v.ready).isSome then { v.put v.console none with ready := v.console, console := v.ready } else v

/-- TAKE_VIEW (R68, section 11.4). -/
def serveTakeView (s : State) : Served :=
  let v := s.vbu.take
  let body :=
    match v.get v.console with
    | none => flagByte false
    | some x => flagByte true ++ x.toBytes
  served (flagByte (s.vbu.get s.vbu.ready).isSome ++ be 1 v.lagCount ++ body) (s.setVbu v)

/-- SHOWN (R70, R71, R76; log entry 40). -/
def serveShown (sequence : Nat) (s : State) : Served :=
  match s.vbu.get s.vbu.console with
  | none => refuse .notFound s
  | some x =>
    if x.seq = sequence then
      served (be 2 sequence ++ be 1 s.vbu.lagLimit) (toFen (.confirm x.entries) (reloadLag s))
    else refuse .notFound s

def execTakeView (s : State) : Host.Outcome State Fault Refusal := request 0x30 serveTakeView s
def execShown (sequence : Nat) (s : State) : Host.Outcome State Fault Refusal := request 0x31 (serveShown sequence) s

end Sys2Proof.Machine
end

