-- ==== Sys2Proof/Machine/Link.lean ====
section
/-! DEFINITION. The console link controller: the request a frame carries (R184, R203, R204, Table 11-8), the receiver
(R178 to R181), the receive buffer and the owed answers (R182). -/

namespace Sys2Proof.Machine

/-! ## From a frame to a request -/

/-- What the CLC makes of a kind and a body: an unassigned kind, a body length the kind does not allow, a field whose byte is
no code and that the owning block answers BAD_FIELD, or a request (R184, R203, R204). -/
inductive Parsed where
  | unassigned
  | badLength
  | badCode
  | request (c : Instr)
deriving DecidableEq, Repr

/-- A body of no bytes. -/
def body0 (c : Instr) : List Byte → Parsed
  | [] => .request c
  | _ => .badLength

/-- A body of one byte. -/
def body1 (f : Nat → Instr) : List Byte → Parsed
  | [a] => .request (f a.toNat)
  | _ => .badLength

/-- A body of two bytes, one field each. -/
def body2 (f : Nat → Nat → Instr) : List Byte → Parsed
  | [a, b] => .request (f a.toNat b.toNat)
  | _ => .badLength

/-- A body of one field of two bytes. -/
def bodyWord (f : Nat → Instr) : List Byte → Parsed
  | [a, b] => .request (f (beValue [a, b]))
  | _ => .badLength

/-- A body of three bytes, one field each. -/
def body3 (f : Nat → Nat → Nat → Instr) : List Byte → Parsed
  | [a, b, c] => .request (f a.toNat b.toNat c.toNat)
  | _ => .badLength

/-- A body of four bytes, one field each. -/
def body4 (f : Nat → Nat → Nat → Nat → Instr) : List Byte → Parsed
  | [a, b, c, d] => .request (f a.toNat b.toNat c.toNat d.toNat)
  | _ => .badLength

/-- STAGE_TARIFF (Table 11-8, R204). -/
def parseStageTariff : List Byte → Parsed
  | 0 :: n :: f3 :: f2 :: f1 :: f0 :: a1 :: a0 :: d1 :: d0 :: w1 :: w0 :: x :: p :: m3 :: m2 :: m1 :: m0 :: count ::
      label =>
    if count.toNat ≤ 12 ∧ label.length = count.toNat then
      .request (.stageTariffSet n.toNat (beValue [f3, f2, f1, f0]) (beValue [a1, a0]) (beValue [d1, d0])
        (beValue [w1, w0]) x.toNat p.toNat (beValue [m3, m2, m1, m0]) label)
    else .badLength
  | 0 :: _ => .badLength
  | [1, n] => .request (.stageTariffRemove n.toNat)
  | 1 :: _ => .badLength
  | body => if body.length = 2 ∨ within 19 31 body.length then .badCode else .badLength

/-- STAGE_BAND. -/
def parseStageBand : List Byte → Parsed
  | [0, days, s1, s0, t] => .request (.stageBandAdd days (beValue [s1, s0]) t.toNat)
  | 0 :: _ => .badLength
  | [1, days, s1, s0] => .request (.stageBandRemove days (beValue [s1, s0]))
  | 1 :: _ => .badLength
  | body => if body.length = 4 ∨ body.length = 5 then .badCode else .badLength

/-- STAGE_HOLIDAY. -/
def parseStageHoliday : List Byte → Parsed
  | [a, y, m, d] =>
    if a = 0 then .request (.stageHolidayAdd (2000 + y.toNat) m.toNat d.toNat)
    else if a = 1 then .request (.stageHolidayRemove (2000 + y.toNat) m.toNat d.toNat)
    else .badCode
  | _ => .badLength

/-- STAGE_EXTRA. -/
def parseStageExtra : List Byte → Parsed
  | 0 :: c :: k :: a3 :: a2 :: a1 :: a0 :: m :: count :: label =>
    if count.toNat ≤ 12 ∧ label.length = count.toNat then
      .request (.stageExtraSet c.toNat k.toNat (beValue [a3, a2, a1, a0]) m.toNat label)
    else .badLength
  | 0 :: _ => .badLength
  | [1, c] => .request (.stageExtraRemove c.toNat)
  | 1 :: _ => .badLength
  | body => if body.length = 2 ∨ within 9 21 body.length then .badCode else .badLength

/-- CLEAR_STAGED. -/
def parseClearStaged : List Byte → Parsed
  | [a] => if a = 0 then .request .clearStagedEmpty else if a = 1 then .request .clearStagedCopyActive else .badCode
  | _ => .badLength

/-- VERDICT: 2 bytes without an approval code and 8 with one (R204). -/
def parseVerdict : List Byte → Parsed
  | id :: outcome :: rest =>
    if rest.length = 0 ∨ rest.length = 6 then
      let approval := if rest = [] then none else some rest
      if outcome = 0 then .request (.verdictApprove id.toNat approval)
      else if outcome = 1 then .request (.verdictDecline id.toNat approval)
      else if outcome = 2 then .request (.verdictDefer id.toNat approval)
      else .badCode
    else .badLength
  | _ => .badLength

/-- ACCOUNT_TENDER: slot, counted account number, amount (Table 11-8, R204). -/
def parseAccountTender : List Byte → Parsed
  | slot :: count :: rest =>
    if count.toNat ≤ 8 ∧ rest.length = count.toNat + 4 then
      .request (.accountTender slot.toNat (rest.take count.toNat) (beValue (rest.drop count.toNat)))
    else .badLength
  | _ => .badLength

/-- SET_TIME. -/
def parseSetTime : List Byte → Parsed
  | [y, mo, d, h, mi, se] => .request (.setTime (2000 + y.toNat) mo.toNat d.toNat h.toNat mi.toNat se.toNat)
  | _ => .badLength

/-- ADD_EXTRA. -/
def parseAddExtra : List Byte → Parsed
  | [s, c, a3, a2, a1, a0] => .request (.addExtra s.toNat c.toNat (beValue [a3, a2, a1, a0]))
  | _ => .badLength

/-- CASH_TENDER. -/
def parseCashTender : List Byte → Parsed
  | [s, a3, a2, a1, a0] => .request (.cashTender s.toNat (beValue [a3, a2, a1, a0]))
  | _ => .badLength

/-- SHIFT_OPEN. -/
def parseShiftOpen : List Byte → Parsed
  | [d3, d2, d1, d0, seats, sharing, lag, f3, f2, f1, f0, c3, c2, c1, c0] =>
    .request (.shiftOpen (beValue [d3, d2, d1, d0]) seats.toNat sharing.toNat lag.toNat (beValue [f3, f2, f1, f0])
      (beValue [c3, c2, c1, c0]))
  | _ => .badLength

/-- SIGN_TEXT: the whole body is the text (R204). -/
def parseSignText (body : List Byte) : Parsed := if body.length ≤ 24 then .request (.signText body) else .badLength

/-- SET_NOTICE_ENABLES. -/
def parseEnables : List Byte → Parsed
  | [a, b] => .request (.setNoticeEnables (BitVec.ofNat 16 (beValue [a, b])))
  | _ => .badLength

/-- Kinds 0x01 to 0x22 (Table 11-8). -/
def parseLow (kind : Nat) (body : List Byte) : Parsed :=
  match kind with
  | 0x01 => body0 .getNotice body
  | 0x02 => parseEnables body
  | 0x03 => body0 .identify body
  | 0x04 => body0 .status body
  | 0x05 => body0 .restart body
  | 0x06 => body0 .getTime body
  | 0x07 => parseSetTime body
  | 0x10 => body0 .calBegin body
  | 0x11 => bodyWord .calEnd body
  | 0x12 => body0 .calAbort body
  | 0x13 => bodyWord .setK body
  | 0x18 => parseStageTariff body
  | 0x19 => parseStageBand body
  | 0x1A => parseStageHoliday body
  | 0x1B => parseStageExtra body
  | 0x1C => parseClearStaged body
  | 0x1D => body0 .commitTariffs body
  | 0x1E => body2 .readTariff body
  | 0x1F => body2 .readBand body
  | 0x20 => body2 .readHoliday body
  | 0x21 => body2 .readExtra body
  | 0x22 => body1 .readSet body
  | _ => .unassigned

/-- Kinds 0x28 to 0x4E (Table 11-8). -/
def parseMiddle (kind : Nat) (body : List Byte) : Parsed :=
  match kind with
  | 0x28 => body4 .hireStart body
  | 0x29 => body1 .hireStop body
  | 0x2A => body1 .hireResume body
  | 0x2B => body3 .setHireTariff body
  | 0x2C => parseAddExtra body
  | 0x2D => body2 .removeExtra body
  | 0x2E => body1 .hireAbandon body
  | 0x2F => body1 .hireRead body
  | 0x30 => body0 .takeView body
  | 0x31 => bodyWord .shown body
  | 0x38 => body1 .presentCard body
  | 0x39 => body1 .cancelPayment body
  | 0x3A => body0 .nextAuth body
  | 0x3B => parseVerdict body
  | 0x3C => body1 .authRead body
  | 0x3D => parseCashTender body
  | 0x3E => parseAccountTender body
  | 0x3F => body2 .deferredOutcome body
  | 0x40 => body1 .deferredRead body
  | 0x48 => parseShiftOpen body
  | 0x49 => body0 .shiftBreak body
  | 0x4A => body0 .shiftResume body
  | 0x4B => body0 .shiftClose body
  | 0x4C => body1 .summaryFetch body
  | 0x4D => body1 .summaryRelease body
  | 0x4E => body0 .totalsRead body
  | _ => .unassigned

/-- Kinds 0x58 to 0x70 (Table 11-8). -/
def parseHigh (kind : Nat) (body : List Byte) : Parsed :=
  match kind with
  | 0x58 => body4 .signConfig body
  | 0x59 => parseSignText body
  | 0x5A => body0 .alertClear body
  | 0x5B => body0 .signHold body
  | 0x5C => body0 .signRelease body
  | 0x5D => body0 .lampTest body
  | 0x5E => body0 .signRead body
  | 0x68 => body1 .icFloor body
  | 0x69 => body1 .icLoop body
  | 0x6A => body0 .icTestStart body
  | 0x6B => body0 .icTestStop body
  | 0x6C => body0 .icInsertError body
  | 0x6D => body0 .icHold body
  | 0x6E => body4 .icConfig body
  | 0x6F => body0 .icRelease body
  | 0x70 => body0 .icRead body
  | _ => .unassigned

/-- What the CLC makes of a frame (R184). -/
def parseRequest (kind : Byte) (body : List Byte) : Parsed :=
  let k := kind.toNat
  if k < 0x28 then parseLow k body else if k < 0x58 then parseMiddle k body else parseHigh k body

/-- What the owning block does for a request; none for a command that is no request. -/
def ownerOf (c : Instr) : Option (State → Served) :=
  match c with
  | .getNotice => some serveGetNotice
  | .setNoticeEnables e => some (serveSetNoticeEnables e)
  | .identify => some serveIdentify
  | .status => some serveStatus
  | .restart => some serveRestart
  | .getTime => some serveGetTime
  | .setTime y mo d h mi se => some (serveSetTime ⟨⟨y, mo, d⟩, h, mi, se⟩)
  | .calBegin => some serveCalBegin
  | .calEnd l => some (serveCalEnd l)
  | .calAbort => some serveCalAbort
  | .setK k => some (serveSetK k)
  | .stageTariffSet n f a d w x p m l => some (serveStageTariffSet ⟨n, f, a, d, w, x, p, m, l, sharedStepOf a p⟩)
  | .stageTariffRemove n => some (serveStageTariffRemove n)
  | .stageBandAdd d st t => some (serveStageBandAdd ⟨d, st, t⟩)
  | .stageBandRemove d st => some (serveStageBandRemove d st)
  | .stageHolidayAdd y m d => some (serveStageHolidayAdd ⟨y, m, d⟩)
  | .stageHolidayRemove y m d => some (serveStageHolidayRemove ⟨y, m, d⟩)
  | .stageExtraSet c k a m l => some (serveStageExtraSet c k a m l)
  | .stageExtraRemove c => some (serveStageExtraRemove c)
  | .clearStagedEmpty => some serveClearStagedEmpty
  | .clearStagedCopyActive => some serveClearStagedCopyActive
  | .commitTariffs => some serveCommitTariffs
  | .readTariff s n => some (serveReadTariff s n)
  | .readBand s n => some (serveReadBand s n)
  | .readHoliday s n => some (serveReadHoliday s n)
  | .readExtra s n => some (serveReadExtra s n)
  | .readSet s => some (serveReadSet s)
  | .hireStart s p so t => some (serveHireStart s p so t)
  | .hireStop s => some (serveHireStop s)
  | .hireResume s => some (serveHireResume s)
  | .setHireTariff s so t => some (serveSetHireTariff s so t)
  | .addExtra s c a => some (serveAddExtra s c a)
  | .removeExtra s n => some (serveRemoveExtra s n)
  | .hireAbandon s => some (serveHireAbandon s)
  | .hireRead s => some (serveHireRead s)
  | .takeView => some serveTakeView
  | .shown q => some (serveShown q)
  | .presentCard s => some (servePresentCard s)
  | .cancelPayment s => some (serveCancelPayment s)
  | .nextAuth => some serveNextAuth
  | .verdictApprove n a => some (serveVerdictApprove n a)
  | .verdictDecline n a => some (serveVerdictDecline n a)
  | .verdictDefer n a => some (serveVerdictDefer n a)
  | .authRead n => some (serveAuthRead n)
  | .cashTender s a => some (serveCashTender s a)
  | .accountTender s t a => some (serveAccountTender s t a)
  | .deferredOutcome n o => some (serveDeferredOutcome n o)
  | .deferredRead n => some (serveDeferredRead n)
  | .shiftOpen d s sh l f c => some (serveShiftOpen d s sh l f c)
  | .shiftBreak => some serveShiftBreak
  | .shiftResume => some serveShiftResume
  | .shiftClose => some serveShiftClose
  | .summaryFetch s => some (serveSummaryFetch s)
  | .summaryRelease n => some (serveSummaryRelease n)
  | .totalsRead => some serveTotalsRead
  | .signConfig a b c d => some (serveSignConfig a b c d)
  | .signText t => some (serveSignText t)
  | .alertClear => some serveAlertClear
  | .signHold => some serveSignHold
  | .signRelease => some serveSignRelease
  | .lampTest => some serveLampTest
  | .signRead => some serveSignRead
  | .icFloor m => some (serveIcFloor m)
  | .icLoop l => some (serveIcLoop l)
  | .icTestStart => some serveIcTestStart
  | .icTestStop => some serveIcTestStop
  | .icInsertError => some serveIcInsertError
  | .icHold => some serveIcHold
  | .icConfig d o a c => some (serveIcConfig d o a c)
  | .icRelease => some serveIcRelease
  | .icRead => some serveIcRead
  | _ => none

/-! ## Taking a request (R184) -/

/-- The reply to a kind that is not assigned (R184, R205). -/
def unknownReply (kind : Byte) : Answer :=
  if within 0x01 0x7E kind.toNat then .reply (kind + 0x80) .unknownRequest [] else .reply 0xFE .unknownRequest [kind]

/-- A request taken from a frame (R184). -/
def takeRequest (f : Frame) (s : State) : State :=
  match parseRequest f.kind f.body with
  | .unassigned => s.setAnswer (some (unknownReply f.kind))
  | .badLength => s.setAnswer (some (.reply (f.kind + 0x80) .badLength []))
  | .badCode => s.setAnswer (some (.reply (f.kind + 0x80) .badField []))
  | .request c =>
    match ownerOf c with
    | some g => answerWith f.kind g s
    | none => s.setAnswer (some (.reply (f.kind + 0x80) .badLength []))

/-- A request of an unassigned kind (R184). -/
def execUnknownRequest (kind : Byte) (s : State) : Host.Outcome State Fault Refusal :=
  .next
    (if listening s ∧ parseRequest kind [] = .unassigned then s.setAnswer (some (unknownReply kind)) else s)

/-! ## The receive buffer and the owed answers (R182) -/

/-- Nothing is in progress and nothing owed. -/
def answerIdle (c : Clc) : Bool := c.answer.isNone && c.owed == []

/-- An owed answer appended, if fewer than 4 are owed (R182). -/
def oweReject (cause : RejectCause) (kind : Option Byte) (c : Clc) : Clc :=
  if c.owed.length < 4 then { c with owed := c.owed ++ [.reject cause kind] } else c

/-- A REJECT becomes owed, or the answer in progress at once (R182). -/
def placeReject (cause : RejectCause) (kind : Option Byte) (s : State) : State :=
  if answerIdle s.clc then s.setAnswer (some (.reject cause kind)) else s.setClc (oweReject cause kind s.clc)

/-- A valid frame placed: taken at once, buffered, or an overrun (R182). -/
def placeFrame (f : Frame) (s : State) : State :=
  if answerIdle s.clc then takeRequest f s
  else if s.clc.buffer.isNone ∧ s.clc.owed.length < 4 then
    s.setClc { s.clc with buffer := some f, owed := s.clc.owed ++ [.request] }
  else
    raise .overrun
      (s.setClc (oweReject .overrun (some f.kind)
        { s.clc with overrunCount := satAdd max16 s.clc.overrunCount 1 }))

/-- The last byte of the answer in progress has gone out: a RESTART's start begins, or the first owed answer becomes the
answer in progress (R182, R183, R200). At a RESTART the supply state becomes STARTING here, while the start's own effects and
its return time are those of RESTART_START (log entry 35). -/
def endAnswer (s : State) : State :=
  if s.clc.answer.isNone then s
  else
    let sent := s.setAnswer none
    if s.smr.restart.isSome then sent.setSmr { s.smr with supply := .starting }
    else
      match s.clc.owed with
      | [] => sent
      | .reject cause kind :: rest =>
        s.setClc { s.clc with owed := rest, answer := some (.reject cause kind) }
      | .request :: rest =>
        match s.clc.buffer with
        | some f => takeRequest f (s.setClc { s.clc with owed := rest, buffer := none, answer := none })
        | none => s.setClc { s.clc with owed := rest, answer := none }

def execAnswerEnd (s : State) : Host.Outcome State Fault Refusal := event endAnswer s

/-! ## The receiver (R178 to R181) -/

/-- The receiver returns to HUNT, the frame in assembly discarded. -/
def toHunt (s : State) : State := s.setClc { s.clc with rx := .hunt, bytes := [] }

/-- What a completed frame leads to; between the taking of a RESTART and the end of its start the frame is discarded without
an answer (R193, R200; log entry 26). -/
def unlessRestarting (place : State → State) (s : State) : State := if listening s then place s else s

/-- The length field of the frame in assembly. -/
def lengthField (bytes : List Byte) : Nat := beValue (bytes.take 2)

/-- The second byte of the length field is received (R178, R179). -/
def checkLength (bytes : List Byte) (s : State) : State :=
  let n := lengthField bytes
  if n = 0 ∨ 260 < n then
    let t := toHunt s
    unlessRestarting (placeReject .lengthField none)
      (t.setClc { t.clc with lengthCount := satAdd max16 t.clc.lengthCount 1 })
  else s.setClc { s.clc with rx := .body, bytes := bytes }

/-- The frame in assembly is complete: the CRC decides (R180). -/
def completeFrame (bytes : List Byte) (s : State) : State :=
  let t := toHunt s
  let counted := bytes.take (2 + lengthField bytes)
  let kind := (counted.drop 2).headD 0
  if bytes.drop (2 + lengthField bytes) = be 2 (crc16 counted).toNat then
    unlessRestarting (placeFrame ⟨kind, counted.drop 3⟩) t
  else
    unlessRestarting (placeReject .check (some kind))
      (t.setClc { t.clc with checkCount := satAdd max16 t.clc.checkCount 1 })

/-- A byte received on CRX (R178). -/
def receiveByte (b : Byte) (s : State) : State :=
  let bytes := s.clc.bytes ++ [b]
  match s.clc.rx with
  | .hunt => if b = 0xC5 then s.setClc { s.clc with rx := .length, bytes := [] } else s
  | .length => if bytes.length < 2 then s.setClc { s.clc with bytes := bytes } else checkLength bytes s
  | .body =>
    s.setClc { s.clc with
      bytes := bytes, rx := if bytes.length < 2 + lengthField bytes then .body else .check }
  | .check =>
    if bytes.length < 4 + lengthField bytes then s.setClc { s.clc with bytes := bytes } else completeFrame bytes s

/-- A byte on CRX while the CLC runs, a RESTART that waits for its start included (R178, R193). -/
def hearByte (s : State) (b : Byte) : State := if powered s then receiveByte b s else s

/-- A byte on CRX, with or without a UART framing error: a byte with one is discarded in HUNT and taken with the value sampled
inside a frame (R178). -/
def execConsoleStartByte (byte : RxByte) (s : State) : Host.Outcome State Fault Refusal :=
  .next (if byte.framingError ∧ s.clc.rx = .hunt then s else hearByte s byte.value)

/-- The bytes received up to the completion of a frame; those inside it may have had framing errors (R178, R180;
log entry 1). -/
def execConsoleFrameComplete (bytes : List Byte) (s : State) : Host.Outcome State Fault Refusal :=
  .next (bytes.foldl hearByte s)

/-- The bytes received up to the second byte of a length field (R179; log entry 1). -/
def execLengthFieldFault (bytes : List Byte) (s : State) : Host.Outcome State Fault Refusal :=
  .next (bytes.foldl (fun t b => hearByte t b) s)

/-- A gap ends the frame in assembly, is counted and raises LINK GAP; in HUNT no time limit applies (R181). -/
def cutFrame (s : State) : State :=
  if s.clc.rx = .hunt then s
  else
    let t := toHunt s
    raise .gap (t.setClc { t.clc with gapCount := satAdd max16 t.clc.gapCount 1 })

/-- More than 20 ms without a byte inside a frame, whenever the CLC runs: R181 makes no exception for a RESTART that waits for
its start. -/
def execFrameGap (s : State) : Host.Outcome State Fault Refusal := event cutFrame s

end Sys2Proof.Machine
end

