-- ==== Sys2Proof/Machine/Dispatch.lean ====
section
/-! DEFINITION. One arm for each command, each one call of its meaning. -/

namespace Sys2Proof.Machine

def exec (i : Instr) (s : State) : Host.Outcome State Fault Refusal :=
  match i with
  | .wheelPulse => Sys2Proof.Machine.execWheelPulse s
  | .wholeSecond => Sys2Proof.Machine.execWholeSecond s
  | .scheduleEvaluation => Sys2Proof.Machine.execScheduleEvaluation s
  | .fenBandChange => Sys2Proof.Machine.execFenBandChange s
  | .fenSecondReport => Sys2Proof.Machine.execFenSecondReport s
  | .displayStaleOnset => Sys2Proof.Machine.execDisplayStaleOnset s
  | .sauSecondReport => Sys2Proof.Machine.execSauSecondReport s
  | .sealOpened => Sys2Proof.Machine.execSealOpened s
  | .sealClosed => Sys2Proof.Machine.execSealClosed s
  | .sealInitialSample high => Sys2Proof.Machine.execSealInitialSample high s
  | .getNotice => Sys2Proof.Machine.execGetNotice s
  | .setNoticeEnables enables => Sys2Proof.Machine.execSetNoticeEnables enables s
  | .identify => Sys2Proof.Machine.execIdentify s
  | .status => Sys2Proof.Machine.execStatus s
  | .restart => Sys2Proof.Machine.execRestart s
  | .getTime => Sys2Proof.Machine.execGetTime s
  | .setTime x0 x1 x2 x3 x4 x5 => Sys2Proof.Machine.execSetTime x0 x1 x2 x3 x4 x5 s
  | .calBegin => Sys2Proof.Machine.execCalBegin s
  | .calEnd length => Sys2Proof.Machine.execCalEnd length s
  | .calAbort => Sys2Proof.Machine.execCalAbort s
  | .setK k => Sys2Proof.Machine.execSetK k s
  | .stageTariffSet x0 x1 x2 x3 x4 x5 x6 x7 x8 => Sys2Proof.Machine.execStageTariffSet x0 x1 x2 x3 x4 x5 x6 x7 x8 s
  | .stageTariffRemove number => Sys2Proof.Machine.execStageTariffRemove number s
  | .stageBandAdd days start tariff => Sys2Proof.Machine.execStageBandAdd days start tariff s
  | .stageBandRemove days start => Sys2Proof.Machine.execStageBandRemove days start s
  | .stageHolidayAdd year month day => Sys2Proof.Machine.execStageHolidayAdd year month day s
  | .stageHolidayRemove year month day => Sys2Proof.Machine.execStageHolidayRemove year month day s
  | .stageExtraSet x0 x1 x2 x3 x4 => Sys2Proof.Machine.execStageExtraSet x0 x1 x2 x3 x4 s
  | .stageExtraRemove code => Sys2Proof.Machine.execStageExtraRemove code s
  | .clearStagedEmpty => Sys2Proof.Machine.execClearStagedEmpty s
  | .clearStagedCopyActive => Sys2Proof.Machine.execClearStagedCopyActive s
  | .commitTariffs => Sys2Proof.Machine.execCommitTariffs s
  | .readTariff selector number => Sys2Proof.Machine.execReadTariff selector number s
  | .readBand selector index => Sys2Proof.Machine.execReadBand selector index s
  | .readHoliday selector index => Sys2Proof.Machine.execReadHoliday selector index s
  | .readExtra selector code => Sys2Proof.Machine.execReadExtra selector code s
  | .readSet selector => Sys2Proof.Machine.execReadSet selector s
  | .hireStart slot party source tariff => Sys2Proof.Machine.execHireStart slot party source tariff s
  | .hireStop slot => Sys2Proof.Machine.execHireStop slot s
  | .hireResume slot => Sys2Proof.Machine.execHireResume slot s
  | .setHireTariff slot source tariff => Sys2Proof.Machine.execSetHireTariff slot source tariff s
  | .addExtra slot code amount => Sys2Proof.Machine.execAddExtra slot code amount s
  | .removeExtra slot index => Sys2Proof.Machine.execRemoveExtra slot index s
  | .hireAbandon slot => Sys2Proof.Machine.execHireAbandon slot s
  | .hireRead slot => Sys2Proof.Machine.execHireRead slot s
  | .composition => Sys2Proof.Machine.execComposition s
  | .takeView => Sys2Proof.Machine.execTakeView s
  | .shown sequence => Sys2Proof.Machine.execShown sequence s
  | .confirmation => Sys2Proof.Machine.execConfirmation s
  | .presentCard slot => Sys2Proof.Machine.execPresentCard slot s
  | .cancelPayment slot => Sys2Proof.Machine.execCancelPayment slot s
  | .nextAuth => Sys2Proof.Machine.execNextAuth s
  | .verdictApprove id approval => Sys2Proof.Machine.execVerdictApprove id approval s
  | .verdictDecline id approval => Sys2Proof.Machine.execVerdictDecline id approval s
  | .verdictDefer id approval => Sys2Proof.Machine.execVerdictDefer id approval s
  | .authRead index => Sys2Proof.Machine.execAuthRead index s
  | .cashTender slot amount => Sys2Proof.Machine.execCashTender slot amount s
  | .accountTender slot account amount => Sys2Proof.Machine.execAccountTender slot account amount s
  | .deferredOutcome id outcome => Sys2Proof.Machine.execDeferredOutcome id outcome s
  | .deferredRead index => Sys2Proof.Machine.execDeferredRead index s
  | .authDeadlineExpiry id => Sys2Proof.Machine.execAuthDeadlineExpiry id s
  | .terminalExchange => Sys2Proof.Machine.execTerminalExchange s
  | .exchangeUnanswered => Sys2Proof.Machine.execExchangeUnanswered s
  | .terminalLinkLost => Sys2Proof.Machine.execTerminalLinkLost s
  | .goodReply frame => Sys2Proof.Machine.execGoodReply frame s
  | .shiftOpen x0 x1 x2 x3 x4 x5 => Sys2Proof.Machine.execShiftOpen x0 x1 x2 x3 x4 x5 s
  | .shiftBreak => Sys2Proof.Machine.execShiftBreak s
  | .shiftResume => Sys2Proof.Machine.execShiftResume s
  | .shiftClose => Sys2Proof.Machine.execShiftClose s
  | .summaryFetch selector => Sys2Proof.Machine.execSummaryFetch selector s
  | .summaryRelease index => Sys2Proof.Machine.execSummaryRelease index s
  | .totalsRead => Sys2Proof.Machine.execTotalsRead s
  | .signConfig availability seats text alert => Sys2Proof.Machine.execSignConfig availability seats text alert s
  | .signText text => Sys2Proof.Machine.execSignText text s
  | .alertClear => Sys2Proof.Machine.execAlertClear s
  | .signHold => Sys2Proof.Machine.execSignHold s
  | .signRelease => Sys2Proof.Machine.execSignRelease s
  | .lampTest => Sys2Proof.Machine.execLampTest s
  | .signRead => Sys2Proof.Machine.execSignRead s
  | .alarmActivation input => Sys2Proof.Machine.execAlarmActivation input s
  | .foreignStart => Sys2Proof.Machine.execForeignStart s
  | .busFree cause => Sys2Proof.Machine.execBusFree cause s
  | .transferBegin => Sys2Proof.Machine.execTransferBegin s
  | .transferSuccess => Sys2Proof.Machine.execTransferSuccess s
  | .transferFailed => Sys2Proof.Machine.execTransferFailed s
  | .moduleFault => Sys2Proof.Machine.execModuleFault s
  | .holdOffExpiry role => Sys2Proof.Machine.execHoldOffExpiry role s
  | .probeTimerExpiry role => Sys2Proof.Machine.execProbeTimerExpiry role s
  | .arbitrationLost => Sys2Proof.Machine.execArbitrationLost s
  | .arbLimit => Sys2Proof.Machine.execArbLimit s
  | .arbitrationRestart => Sys2Proof.Machine.execArbitrationRestart s
  | .clockStall => Sys2Proof.Machine.execClockStall s
  | .busRecovery => Sys2Proof.Machine.execBusRecovery s
  | .lampTransferEnd => Sys2Proof.Machine.execLampTransferEnd s
  | .lampTransferRetry => Sys2Proof.Machine.execLampTransferRetry s
  | .lampLitEnd => Sys2Proof.Machine.execLampLitEnd s
  | .frontCompletion received => Sys2Proof.Machine.execFrontCompletion received s
  | .frontTalkButton pressed => Sys2Proof.Machine.execFrontTalkButton pressed s
  | .rearFrame before sync after => Sys2Proof.Machine.execRearFrame before sync after s
  | .damagedFrame before sync after => Sys2Proof.Machine.execDamagedFrame before sync after s
  | .chimeEnd => Sys2Proof.Machine.execChimeEnd s
  | .rearLinkLost => Sys2Proof.Machine.execRearLinkLost s
  | .pinHoldExpiry => Sys2Proof.Machine.execPinHoldExpiry s
  | .remoteLoopOn before sync after => Sys2Proof.Machine.execRemoteLoopOn before sync after s
  | .remoteLoopOff before sync after => Sys2Proof.Machine.execRemoteLoopOff before sync after s
  | .announceEnd before sync after => Sys2Proof.Machine.execAnnounceEnd before sync after s
  | .testSyncLost before sync after => Sys2Proof.Machine.execTestSyncLost before sync after s
  | .icFloor mode => Sys2Proof.Machine.execIcFloor mode s
  | .icLoop selection => Sys2Proof.Machine.execIcLoop selection s
  | .icTestStart => Sys2Proof.Machine.execIcTestStart s
  | .icTestStop => Sys2Proof.Machine.execIcTestStop s
  | .icInsertError => Sys2Proof.Machine.execIcInsertError s
  | .icHold => Sys2Proof.Machine.execIcHold s
  | .icConfig depth offset autoLoop chime => Sys2Proof.Machine.execIcConfig depth offset autoLoop chime s
  | .icRelease => Sys2Proof.Machine.execIcRelease s
  | .icRead => Sys2Proof.Machine.execIcRead s
  | .consoleFrameComplete bytes => Sys2Proof.Machine.execConsoleFrameComplete bytes s
  | .lengthFieldFault bytes => Sys2Proof.Machine.execLengthFieldFault bytes s
  | .frameGap => Sys2Proof.Machine.execFrameGap s
  | .answerEnd => Sys2Proof.Machine.execAnswerEnd s
  | .unknownRequest kind => Sys2Proof.Machine.execUnknownRequest kind s
  | .supplyFailure loss => Sys2Proof.Machine.execSupplyFailure loss s
  | .supplyReturn damage crystalStopped cut => Sys2Proof.Machine.execSupplyReturn damage crystalStopped cut s
  | .restartStart => Sys2Proof.Machine.execRestartStart s
  | .consoleStartByte byte => Sys2Proof.Machine.execConsoleStartByte byte s

end Sys2Proof.Machine
end

