-- ==== Sys2Proof/Machine/Time.lean ====
section
/-! DEFINITION. One millisecond in which no command is taken: each time remaining that State holds runs down (log entry 2).
The end of a time is the command of its own row. -/

namespace Sys2Proof.Machine

/-- A remaining time after a millisecond. -/
def elapsed (o : Option Nat) : Option Nat := o.map (· - 1)

/-- Deadlines run down while the part is powered (R93). -/
def tickStu (u : Stu) : Stu := { u with queue := u.queue.map fun e => { e with deadline := e.deadline - 1 } }

/-- The hold of a PIN mute runs down (R164). -/
def tickPiu (p : Piu) : Piu :=
  match p.pinMute with
  | .hold n => { p with pinMute := .hold (n - 1) }
  | _ => p

/-- The hold-offs of the update list run down (R142). -/
def tickSgu (g : Sgu) : Sgu := { g with list := g.list.map fun e => { e with holdOff := elapsed e.holdOff } }

/-- The probe timers run down in RUNNING and LAMP_TEST (R144); the retry wait and the lit time of a lamp test run down
(R148, R149). -/
def tickRbc (b : Rbc) : Rbc :=
  { b with
    probe := if b.controller = .running ∨ b.controller = .lampTest then b.probe.map elapsed else b.probe
    lampRetry := elapsed b.lampRetry
    litLeft := b.litLeft - 1 }

/-- One millisecond of the part (log entry 2). -/
def tick (s : State) : State :=
  if powered s then
    (((s.setStu (tickStu s.stu)).setPiu (tickPiu s.piu)).setSgu (tickSgu s.sgu)).setRbc (tickRbc s.rbc)
  else s

end Sys2Proof.Machine
end

