-- ==== Sys2Proof/Machine/Step.lean ====
section
/-! DEFINITION. A step takes the command at the front of the queue; on an empty queue a millisecond passes (log entry 2). -/

namespace Sys2Proof.Machine

/-- One step of the part. -/
def step (s : State) : Host.Outcome State Fault Refusal :=
  match s.pending with
  | [] => .next (tick s)
  | c :: rest => exec c (s.setPending rest)

/-- The command a word spells, put at the front of the queue; no word spells one (98_reader.md). -/
def State.withFetchWord (s : State) (nbits w : Nat) : State :=
  match decodeTableWord nbits w with
  | none => s
  | some c => s.setPending (c :: s.pending)

end Sys2Proof.Machine
end

