-- ==== Sys2Proof/Safety.lean ====
section
/-! DEFINITION. Safety: no command stops the part, and the properties that every step keeps, one predicate each. -/

namespace Sys2Proof.Machine

/-- The state with the reply of a request as the answer in progress: its kind is the request kind plus 0x80 (R184). -/
def answered (kind : Byte) (st : Status) (payload : List Byte) (s : State) : State :=
  s.setAnswer (some (.reply (kind + 0x80) st payload))

/-- The present hire of a slot after a change to it alone. -/
def otherSlotsKept (k : Slot) (s t : State) : Prop := ∀ j, j ≠ k → t.hire j = s.hire j

/-- The blocks that no metering or payment event reaches: clock, bus controller and supply monitor. -/
def outsideKept (s t : State) : Prop := t.cku = s.cku ∧ t.rbc = s.rbc ∧ t.smr = s.smr

/-- The bus controller has entered HELD from the state given: no transfer, the bus FREE, every module's state and content
unknown, probe timers stopped, no losses counted, nothing of a lamp test (R151). -/
def heldRbc (s t : State) : Prop :=
  t.rbc = { s.rbc with
    controller := .held, holdPending := false, phase := none, busBusy := false
    modules := s.sgu.roles.map (fun a => a.map fun _ => .unknown), acked := ⟨none, none, none, none⟩
    probe := ⟨none, none, none, none⟩, arbLoss := 0, flight := none, sending := [], arbWait := false
    recovering := false, lampTries := 0, lampRetry := none, litLeft := 0, lampCut := false }

/-! ## Properties that every step keeps -/

/-- Seats are never oversold, and hires are held only while the shift is OPEN (R34, R116, R117). -/
def SeatsHeld (s : State) : Prop :=
  seatsTaken s.fen.slots ≤ s.fen.seats ∧ (s.sau.shift ≠ .opened → cabEmpty s = true)

/-- Exactly one summary slot is RESERVED while the shift is OPEN or on BREAK, and none while it is CLOSED (R125). -/
def SlotReserved (s : State) : Prop :=
  (s.sau.shift = .closed → s.sau.slot0 ≠ .reserved ∧ s.sau.slot1 ≠ .reserved) ∧
  (s.sau.shift ≠ .closed →
    (s.sau.slot0 = .reserved ∧ s.sau.slot1 ≠ .reserved) ∨ (s.sau.slot0 ≠ .reserved ∧ s.sau.slot1 = .reserved))

/-- The bill of a stopped hire balances: the due total is fare, top-up and extras, and the remaining with the tenders make
the due total (R37, R51, R56). -/
def Hire.balances (h : Hire) : Prop :=
  h.state = .frozen ∨ h.state = .due ∨ h.state = .paying →
    ∃ b, h.bill = some b ∧ b.dueTotal = h.fare + b.topUp + h.extrasTotal
      ∧ b.remaining + (h.tenders.map (·.amount)).sum = b.dueTotal

/-- Every hire of the table balances. -/
def BillsBalance (s : State) : Prop := ∀ k h, s.hire k = some h → h.balances

/-- The update list holds at most one entry for a role (R138). -/
def OneEntryPerRole (s : State) : Prop := (s.sgu.list.map (·.role)).Nodup

/-- The three view roles are held by three buffers (R65), and the lag limit is at least 1 (Table 4-1). -/
def ViewRolesHeld (s : State) : Prop :=
  s.vbu.write ≠ s.vbu.ready ∧ s.vbu.ready ≠ s.vbu.console ∧ s.vbu.write ≠ s.vbu.console

/-- While the part runs, RESETN is high and the supply present, and the condition-holds flags follow their conditions; a raised
kind is enabled (R187, R188, R194). -/
def NoticesFollow (s : State) : Prop :=
  1 ≤ s.vbu.lagLimit ∧ (∀ k, (s.clc.notices.get k).raised = true → (s.clc.notices.get k).enabled = true) ∧
  (powered s = true →
    s.smr.pins = ⟨true, true⟩ ∧ s.clc.notices.displayStale.holds = displayStale s ∧ s.clc.notices.authWaiting.holds = authWaiting s
      ∧ s.clc.notices.alert.holds = s.sgu.latch)

/-- The queues stay within their capacities: owed answers, authorization entries, deferred entries, the bytes of a rear frame
that has begun (R182, R93, R106, R156). -/
def QueuesWithinCapacity (s : State) : Prop :=
  s.clc.owed.length ≤ 4 ∧ s.stu.queue.length ≤ 8 ∧ s.stu.deferred.length ≤ 32 ∧ s.piu.begun.length ≤ 66

/-- An intercom loop or link test is active only while every slot is EMPTY (R167). -/
def LoopsInEmptyCab (s : State) : Prop := s.piu.loop ≠ .none ∨ s.piu.phase ≠ .none → cabEmpty s = true

end Sys2Proof.Machine
end

