-- ==== Sys2Proof/Certificates/Slice0/Obligations.lean ====
section
/-! DEFINITION. The statements for the provers, in the order of OBLIGATIONS.json. -/

section
open Sys2Proof Sys2Proof.Machine

/-! ## The step -/

/-- A step takes the command at the front of the queue and runs it on the state with the rest of the queue. -/
def Obligations.StepTakesTheFrontCommand : Prop :=
  ∀ (c : Instr) (rest : List Instr) (s : State), s.pending = c :: rest → step s = exec c (s.setPending rest)

/-- No command stops the part, and no command touches the queue. On an empty queue a millisecond passes (the model's
choice, log entry 2): the times remaining run down by one and nothing else changes: the deadlines of the authorization
entries, the hold of a PIN mute, the hold-offs, the probe timers in RUNNING and LAMP_TEST, the retry wait and the lit time
of a lamp test. Without supply nothing changes. -/
def Obligations.EveryStepAnswers : Prop :=
  (∀ (c : Instr) (s : State), ∃ t, exec c s = .next t ∧ t.pending = s.pending) ∧
  (∀ s : State, s.pending = [] → powered s = true →
      step s = .next { s with
        stu := { s.stu with queue := s.stu.queue.map fun e => { e with deadline := e.deadline - 1 } }
        piu := { s.piu with
          pinMute := match s.piu.pinMute with
            | .hold n => .hold (n - 1)
            | m => m }
        sgu := { s.sgu with list := s.sgu.list.map fun e => { e with holdOff := e.holdOff.map (· - 1) } }
        rbc := { s.rbc with
          probe :=
            if s.rbc.controller = .running ∨ s.rbc.controller = .lampTest then
              ⟨s.rbc.probe.availability.map (· - 1), s.rbc.probe.seats.map (· - 1), s.rbc.probe.text.map (· - 1),
                s.rbc.probe.alert.map (· - 1)⟩
            else s.rbc.probe
          lampRetry := s.rbc.lampRetry.map (· - 1), litLeft := s.rbc.litLeft - 1 } }) ∧
  (∀ s : State, s.pending = [] → powered s = false → step s = .next s)

/-- A request is answered with what its owning block returns, and a refused one changes nothing but the answer (R184);
while the part takes no requests, it changes nothing at all (R194, R200). That a request row replaces an answer in
progress is the model's choice (log entry 7). -/
def Obligations.RequestsAreAnswered : Prop :=
  ∀ (c : Instr) (owner : State → Served) (s : State), ownerOf c = some owner →
    (listening s = true →
      ∃ kind, exec c s = .next (answered kind (owner s).status (owner s).payload (owner s).state)
        ∧ ((owner s).status ≠ .ok → (owner s).status ≠ .accepted → (owner s).state = s)) ∧
    (listening s = false → exec c s = .next s)

/-! ## Metering and clock -/

/-- A pulse with k valid counts metres and keeps the remainder below k; with k clear it counts none (R1, R2). -/
def Obligations.PulseCountsMetres : Prop :=
  ∀ s : State, powered s = true →
    (s.miu.kValid = true →
      exec .wheelPulse s = .next (s.setMiu
        { s.miu with
          rawPulses := if s.miu.calActive then min (s.miu.rawPulses + 1) 4294967295 else s.miu.rawPulses
          remainder := (s.miu.remainder + 1000) % s.miu.k
          odometer := min (s.miu.odometer + (s.miu.remainder + 1000) / s.miu.k) 4294967295
          secondCount := min (s.miu.secondCount + (s.miu.remainder + 1000) / s.miu.k) 65535 })) ∧
    (s.miu.kValid = false →
      exec .wheelPulse s = .next (s.setMiu
        { s.miu with
          rawPulses := if s.miu.calActive then min (s.miu.rawPulses + 1) 4294967295 else s.miu.rawPulses }))

/-- A whole second closes the second that ended and issues its report; at seconds 0 the minute event is issued, ages the
deferred list, an entry that it newly marks raising DEFERRED_AGED once, and counts a break minute (R3, R11, R13, R109,
R123). Without supply only the clock runs. The events
issued and not yet taken are a list in State, the model's choice (log entry 4). -/
def Obligations.WholeSecondClosesTheSecond : Prop :=
  ∀ s : State,
    (powered s = true →
      ∃ t, exec .wholeSecond s = .next t ∧
        t.cku = { s.cku with now := s.cku.now.next } ∧ t.miu = { s.miu with secondCount := 0 } ∧
        t.transit.fen = s.transit.fen ++ [.report
          ⟨s.cku.now, s.miu.secondCount, if 70 < s.miu.secondCount then .implausible else .normal⟩] ∧
        t.transit.sau = s.transit.sau ++ [
          ⟨s.cku.now, s.miu.secondCount, if 70 < s.miu.secondCount then .implausible else .normal⟩] ∧
        t.transit.tfs = s.transit.tfs ++ (if s.cku.now.next.second = 0 then [presentPoint t] else []) ∧
        t.transit.vbu = s.transit.vbu ∧
        t.clc.notices.meter =
          (if 70 < s.miu.secondCount then s.clc.notices.meter.addReason 0 else s.clc.notices.meter) ∧
        t.stu = { s.stu with
          deferred := s.stu.deferred.map fun d =>
            if s.cku.now.next.second = 0 ∧ d.time.seconds + 259200 < s.cku.now.next.seconds then { d with aged := true }
            else d } ∧
        ((s.cku.now.next.second = 0 ∧
            ∃ d ∈ s.stu.deferred, d.aged = false ∧ d.time.seconds + 259200 < s.cku.now.next.seconds) →
          t.clc.notices.shift = s.clc.notices.shift.addReason 1) ∧
        (¬ (s.cku.now.next.second = 0 ∧
            ∃ d ∈ s.stu.deferred, d.aged = false ∧ d.time.seconds + 259200 < s.cku.now.next.seconds) →
          t.clc.notices.shift = s.clc.notices.shift) ∧
        t.sau = { s.sau with
          live := { s.sau.live with
            breakMinutes := if s.sau.shift = .onBreak ∧ s.cku.now.next.second = 0
              then min (s.sau.live.breakMinutes + 1) 4294967295 else s.sau.live.breakMinutes } } ∧
        t.tfs = s.tfs ∧ t.fen = s.fen ∧ t.vbu = s.vbu ∧ t.tlc = s.tlc ∧ t.sgu = s.sgu ∧ t.rbc = s.rbc ∧ t.piu = s.piu
          ∧ t.smr = s.smr ∧ t.free = s.free) ∧
    (powered s = false → exec .wholeSecond s = .next (s.setCku { s.cku with now := s.cku.now.next }))

/-- The requests on k and the calibration run: the run begins, measures k to the nearest whole number, and is aborted; k
is set directly; the refusals in their order: BUSY, SEALED, NOT_ALLOWED, BAD_FIELD (R5 to R8). -/
def Obligations.CalibrationAndKFactor : Prop :=
  ∀ (s : State), listening s = true →
    (s.miu.calActive = false → s.miu.sealOpen = true → s.sau.shift = .closed →
      exec .calBegin s = .next (answered 0x10 .ok [] (s.setMiu { s.miu with calActive := true, rawPulses := 0 }))) ∧
    (∀ length, s.miu.calActive = true → 100 ≤ length → length ≤ 5000 →
      500 ≤ (2000 * s.miu.rawPulses + length) / (2 * length) →
      (2000 * s.miu.rawPulses + length) / (2 * length) ≤ 50000 →
      exec (.calEnd length) s = .next (answered 0x11 .ok (be 2 ((2000 * s.miu.rawPulses + length) / (2 * length)))
        (raise .calDone (s.setMiu
          { s.miu with
            k := (2000 * s.miu.rawPulses + length) / (2 * length), kValid := true, remainder := 0
            calCounter := min (s.miu.calCounter + 1) 65535, calActive := false, rawPulses := 0 })))) ∧
    (∀ length, s.miu.calActive = false → exec (.calEnd length) s = .next (answered 0x11 .notAllowed [] s)) ∧
    (∀ length, s.miu.calActive = true → (length < 100 ∨ 5000 < length) →
      exec (.calEnd length) s = .next (answered 0x11 .badField [] s)) ∧
    (∀ length, s.miu.calActive = true → 100 ≤ length → length ≤ 5000 →
      ((2000 * s.miu.rawPulses + length) / (2 * length) < 500 ∨
        50000 < (2000 * s.miu.rawPulses + length) / (2 * length)) →
      exec (.calEnd length) s = .next (answered 0x11 .badField [] s)) ∧
    (s.miu.calActive = false → exec .calAbort s = .next (answered 0x12 .notAllowed [] s)) ∧
    (s.miu.calActive = true →
      exec .calAbort s = .next (answered 0x12 .ok [] (s.setMiu { s.miu with calActive := false, rawPulses := 0 }))) ∧
    (∀ k, s.miu.calActive = false → s.miu.sealOpen = true → s.sau.shift = .closed → 500 ≤ k → k ≤ 50000 →
      exec (.setK k) s = .next (answered 0x13 .ok [] (s.setMiu
        { s.miu with k := k, kValid := true, remainder := 0, calCounter := min (s.miu.calCounter + 1) 65535 }))) ∧
    (∀ k, s.miu.calActive = true →
      exec .calBegin s = .next (answered 0x10 .busy [] s) ∧ exec (.setK k) s = .next (answered 0x13 .busy [] s)) ∧
    (∀ k, s.miu.calActive = false → s.miu.sealOpen = false →
      exec .calBegin s = .next (answered 0x10 .sealed [] s) ∧ exec (.setK k) s = .next (answered 0x13 .sealed [] s)) ∧
    (∀ k, s.miu.calActive = false → s.miu.sealOpen = true → s.sau.shift ≠ .closed →
      exec .calBegin s = .next (answered 0x10 .notAllowed [] s)
        ∧ exec (.setK k) s = .next (answered 0x13 .notAllowed [] s)) ∧
    (∀ k, s.miu.calActive = false → s.miu.sealOpen = true → s.sau.shift = .closed → (k < 500 ∨ 50000 < k) →
      exec (.setK k) s = .next (answered 0x13 .badField [] s))

/-- An opening of the seal is counted, reported and, with a shift open, posted; the RUNNING hires become SUSPENDED and
the others stand (R10, R39). The initial sample of a high level is an opening; of a low one it is not reported (R9). A
closing is reported, ends a calibration run and changes no hire (R7, R10). That a run begun before the initial sample ends
with CAL_ABORTED at a low one and stays ACTIVE at a high one is the model's choice (log entry 32). -/
def Obligations.SealOpeningsAndClosings : Prop :=
  (∀ (s : State) (c : Instr), powered s = true →
      (c = .sealOpened ∧ s.miu.sealTaken = true ∧ s.miu.sealOpen = false ∨
        c = .sealInitialSample true ∧ s.miu.sealTaken = false) →
      ∃ t, exec c s = .next t ∧
        t.miu = { s.miu with sealOpen := true, sealTaken := true, sealCount := min (s.miu.sealCount + 1) 65535 } ∧
        t.clc.notices.meter = s.clc.notices.meter.addReason 1 ∧
        (s.sau.shift ≠ .closed →
          t.sau.live.sealOpenings = min (s.sau.live.sealOpenings + 1) 65535 ∧
          (∀ k h, s.hire k = some h → h.state = .running →
            t.hire k = some { h with state := .suspended }
              ∧ t.clc.notices.get (hireKind k) = (s.clc.notices.get (hireKind k)).addReason 0) ∧
          (∀ k, s.hireState k ≠ some .running →
            t.hire k = s.hire k ∧ t.clc.notices.get (hireKind k) = s.clc.notices.get (hireKind k))) ∧
        (s.sau.shift = .closed → t.sau = s.sau ∧ t.fen = s.fen) ∧
        outsideKept s t ∧ t.tfs = s.tfs ∧ t.vbu = s.vbu ∧ t.stu = s.stu ∧ t.tlc = s.tlc ∧ t.sgu = s.sgu ∧ t.piu = s.piu) ∧
  (∀ s : State, powered s = true →
      (s.miu.sealTaken = true → s.miu.sealOpen = true → s.miu.calActive = false →
        exec .sealClosed s = .next (raise .sealClosed (s.setMiu { s.miu with sealOpen := false }))) ∧
      (s.miu.sealTaken = true → s.miu.sealOpen = true → s.miu.calActive = true →
        exec .sealClosed s = .next (raise .calAborted ((raise .sealClosed
          (s.setMiu { s.miu with sealOpen := false })).setMiu
            { s.miu with sealOpen := false, calActive := false, rawPulses := 0 }))) ∧
      (s.miu.sealTaken = false → s.miu.calActive = false →
        exec (.sealInitialSample false) s = .next (s.setMiu { s.miu with sealOpen := false, sealTaken := true })) ∧
      (s.miu.sealTaken = false → s.miu.calActive = true →
        exec (.sealInitialSample false) s = .next (raise .calAborted (s.setMiu
          { s.miu with sealOpen := false, sealTaken := true, calActive := false, rawPulses := 0 }))))

/-- GET_TIME is answered in every state; SET_TIME with the shift CLOSED takes the time, sets the flag and evaluates the
schedule at once (R14, R15, R28). The events issued and not yet taken are a list in State, the model's choice (log entry
4). -/
def Obligations.TimeRequests : Prop :=
  ∀ s : State, listening s = true →
    exec .getTime s = .next (answered 0x06 .ok
      (s.cku.now.toBytes ++ be 1 s.cku.now.date.weekday.code ++ be 1 (dayClass s s.cku.now.date).code
        ++ flagByte s.cku.timeSet) s) ∧
    (∀ y mo d h mi se, s.sau.shift = .closed → CalTime.inRange ⟨⟨y, mo, d⟩, h, mi, se⟩ = true →
      ∃ t, exec (.setTime y mo d h mi se) s = .next t ∧
        t.clc.answer = some (.reply 0x87 .ok []) ∧ t.cku = ⟨⟨⟨y, mo, d⟩, h, mi, se⟩, true⟩ ∧
        t.tfs.point = ⟨⟨y, mo, d⟩, 60 * h + mi, dayClass s ⟨y, mo, d⟩⟩ ∧
        t.tfs.scheduled = scheduledAt (activeSet s) ⟨⟨y, mo, d⟩, 60 * h + mi, dayClass s ⟨y, mo, d⟩⟩ ∧
        t.transit.tfs = s.transit.tfs ∧ t.miu = s.miu ∧ t.fen = s.fen ∧ t.sau = s.sau ∧ t.stu = s.stu) ∧
    (∀ y mo d h mi se, s.sau.shift ≠ .closed →
      exec (.setTime y mo d h mi se) s = .next (answered 0x07 .notAllowed [] s)) ∧
    (∀ y mo d h mi se, s.sau.shift = .closed → CalTime.inRange ⟨⟨y, mo, d⟩, h, mi, se⟩ = false →
      exec (.setTime y mo d h mi se) s = .next (answered 0x07 .badField [] s))

/-! ## Tariffs -/

/-- The scheduled tariff is that of the qualifying band with the latest start minute, and tariff 1 without one (R26). -/
def Obligations.ScheduledTariffIsTheLatestBand : Prop :=
  ∀ (set : TariffSet) (p : EvalPoint), set.bands.Pairwise (fun a b => a.start ≤ b.start) →
    (∀ b ∈ set.bands, dayIn b.days p.dayClass = true → b.start ≤ p.minute →
      (∀ x ∈ set.bands, dayIn x.days p.dayClass = true → x.start ≤ p.minute → x = b ∨ x.start < b.start) →
      scheduledAt set p = b.tariff) ∧
    ((∀ x ∈ set.bands, dayIn x.days p.dayClass = true → ¬ x.start ≤ p.minute) → scheduledAt set p = 1)

/-- A minute event gives the TFS its evaluation point; only a change of the number issues a band change: METER
BAND_CHANGE, an event to the FEN, the label to the SGU (R27, R29). The list of events issued and not yet taken, from
which the command takes the oldest, is the model's choice (log entry 4). -/
def Obligations.MinuteEventEvaluatesTheSchedule : Prop :=
  ∀ (s : State) (p : EvalPoint) (rest : List EvalPoint), powered s = true → s.transit.tfs = p :: rest →
    (scheduledAt (activeSet s) p = s.tfs.scheduled →
      exec .scheduleEvaluation s =
        .next ((s.setTransit { s.transit with tfs := rest }).setTfs { s.tfs with point := p })) ∧
    (scheduledAt (activeSet s) p ≠ s.tfs.scheduled →
      ∃ t, exec .scheduleEvaluation s = .next t ∧
        t.tfs = { s.tfs with point := p, scheduled := scheduledAt (activeSet s) p } ∧
        t.transit = { s.transit with
          tfs := rest, fen := s.transit.fen ++ [.bandChange (scheduledAt (activeSet s) p)] } ∧
        t.clc = { s.clc with notices := s.clc.notices.set .meter (s.clc.notices.meter.addReason 5) } ∧
        t.sgu.label = scheduledLabel t ∧ t.sgu.desired = desiredImage t ∧
        t.fen = s.fen ∧ t.miu = s.miu ∧ t.vbu = s.vbu ∧ t.sau = s.sau ∧ outsideKept s t)

/-- STAGE_TARIFF SET writes the record under its number, with the shared step amount rounded down and at least 1; other
numbers stand (R17). -/
def Obligations.StagedTariffIsWritten : Prop :=
  ∀ (s : State) (n ff sa sd sw cr sp mf : Nat) (label : List Byte), listening s = true →
    Tariff.inRange ⟨n, ff, sa, sd, sw, cr, sp, mf, label, max 1 (sa * sp / 100)⟩ = true →
    ∃ t, exec (.stageTariffSet n ff sa sd sw cr sp mf label) s = .next t ∧
      t.clc = { s.clc with answer := some (.reply 0x98 .ok (be 4 (max 1 (sa * sp / 100)))) } ∧
      t.tfs.staged.tariff? n = some ⟨n, ff, sa, sd, sw, cr, sp, mf, label, max 1 (sa * sp / 100)⟩ ∧
      (∀ m, m ≠ n → t.tfs.staged.tariff? m = s.tfs.staged.tariff? m) ∧
      t.tfs.active = s.tfs.active ∧ t.tfs.scheduled = s.tfs.scheduled ∧ t.tfs.staged.bands = s.tfs.staged.bands ∧
      t.miu = s.miu ∧ t.fen = s.fen ∧ t.sau = s.sau ∧ outsideKept s t

/-- STAGE_TARIFF REMOVE (R18): BAD_FIELD, NOT_FOUND, or the record is removed, whatever the staged bands name. That its OK
reply carries the shared step amount of a SET as absent is the model's reading (log entry 33). -/
def Obligations.StagedTariffIsRemoved : Prop :=
  ∀ (s : State) (n : Nat), listening s = true →
    ((n < 1 ∨ 8 < n) → exec (.stageTariffRemove n) s = .next (answered 0x18 .badField [] s)) ∧
    (1 ≤ n → n ≤ 8 → s.tfs.staged.tariff? n = none →
      exec (.stageTariffRemove n) s = .next (answered 0x18 .notFound [] s)) ∧
    (1 ≤ n → n ≤ 8 → s.tfs.staged.tariff? n ≠ none →
      exec (.stageTariffRemove n) s = .next (answered 0x18 .ok [0xFF, 0xFF, 0xFF, 0xFF]
        (s.setTfs { s.tfs with
          staged := { s.tfs.staged with tariffs := s.tfs.staged.tariffs.filter fun r => r.number != n } })))

/-- STAGE_BAND ADD replaces the tariff of the band with the same start and day set, refuses an overlap and a seventeenth
band, and inserts otherwise, the other bands standing; REMOVE takes away exactly that band; the list stays in band order,
ascending start and then first day class, and the reply of an ADD carries the band's index (R19, R20). That the OK reply of
a REMOVE carries that index as absent is the model's reading (log entry 33). -/
def Obligations.BandsAreStaged : Prop :=
  (∀ (s : State) (days : Byte) (start tariff : Nat), listening s = true →
    (days = 0 ∨ 1439 < start →
      exec (.stageBandAdd days start tariff) s = .next (answered 0x19 .badField [] s) ∧
      exec (.stageBandRemove days start) s = .next (answered 0x19 .badField [] s)) ∧
    (tariff < 1 ∨ 8 < tariff → exec (.stageBandAdd days start tariff) s = .next (answered 0x19 .badField [] s))) ∧
  ∀ (s : State) (days : Byte) (start tariff : Nat) (l : List Band), listening s = true → days ≠ 0 → start ≤ 1439 →
    1 ≤ tariff → tariff ≤ 8 → s.tfs.staged.bands = l →
    ((∃ b ∈ l, b.start = start ∧ b.days = days) →
      (∃ n b, l[n]? = some b ∧ b.start = start ∧ b.days = days ∧
        exec (.stageBandAdd days start tariff) s = .next (answered 0x19 .ok (be 1 n)
          (s.setTfs { s.tfs with
            staged := { s.tfs.staged with
              bands := l.map fun b => if b.start = start ∧ b.days = days then { b with tariff := tariff } else b } }))) ∧
      exec (.stageBandRemove days start) s = .next (answered 0x19 .ok [0xFF]
        (s.setTfs { s.tfs with
          staged := { s.tfs.staged with bands := l.filter fun b => !(b.start == start && b.days == days) } }))) ∧
    ((∀ b ∈ l, ¬ (b.start = start ∧ b.days = days)) →
      exec (.stageBandRemove days start) s = .next (answered 0x19 .notFound [] s) ∧
      ((∃ b ∈ l, b.start = start ∧ b.days &&& days ≠ 0) →
        exec (.stageBandAdd days start tariff) s = .next (answered 0x19 .badField [] s)) ∧
      ((∀ b ∈ l, b.start = start → b.days &&& days = 0) →
        (16 ≤ l.length → exec (.stageBandAdd days start tariff) s = .next (answered 0x19 .full [] s)) ∧
        (l.length < 16 → l.Pairwise (fun a b => a.start < b.start ∨ a.start = b.start ∧ firstDay a.days < firstDay b.days) →
          ∃ before after, l = before ++ after ∧
            exec (.stageBandAdd days start tariff) s = .next (answered 0x19 .ok (be 1 before.length)
              (s.setTfs { s.tfs with
                staged := { s.tfs.staged with bands := before ++ ⟨days, start, tariff⟩ :: after } }))))) ∧
    (∀ t, exec (.stageBandAdd days start tariff) s = .next t ∨ exec (.stageBandRemove days start) s = .next t →
      l.Pairwise (fun a b => a.start < b.start ∨ a.start = b.start ∧ firstDay a.days < firstDay b.days) →
      t.tfs.staged.bands.Pairwise
        (fun a b => a.start < b.start ∨ a.start = b.start ∧ firstDay a.days < firstDay b.days))

/-- STAGE_HOLIDAY refuses what is no date, adds a date in ascending order, keeps one already staged, refuses a
twenty-fifth, and removes exactly the date named or answers NOT_FOUND (R21). -/
def Obligations.HolidaysAreStaged : Prop :=
  ∀ (s : State) (y m d : Nat), listening s = true →
    (Date.inRange ⟨y, m, d⟩ = false →
      exec (.stageHolidayAdd y m d) s = .next (answered 0x1A .badField [] s) ∧
      exec (.stageHolidayRemove y m d) s = .next (answered 0x1A .badField [] s)) ∧
    (Date.inRange ⟨y, m, d⟩ = true →
      (⟨y, m, d⟩ ∈ s.tfs.staged.holidays →
        exec (.stageHolidayAdd y m d) s = .next (answered 0x1A .ok [] s) ∧
        exec (.stageHolidayRemove y m d) s = .next (answered 0x1A .ok []
          (s.setTfs { s.tfs with
            staged := { s.tfs.staged with holidays := s.tfs.staged.holidays.filter fun x => x != ⟨y, m, d⟩ } }))) ∧
      (⟨y, m, d⟩ ∉ s.tfs.staged.holidays →
        exec (.stageHolidayRemove y m d) s = .next (answered 0x1A .notFound [] s) ∧
        (24 ≤ s.tfs.staged.holidays.length →
          exec (.stageHolidayAdd y m d) s = .next (answered 0x1A .full [] s)) ∧
        (s.tfs.staged.holidays.length < 24 →
          exec (.stageHolidayAdd y m d) s = .next (answered 0x1A .ok []
            (s.setTfs { s.tfs with
              staged := { s.tfs.staged with
                holidays := (s.tfs.staged.holidays.filter fun x => x.before ⟨y, m, d⟩) ++
                  ⟨y, m, d⟩ :: s.tfs.staged.holidays.filter fun x => Date.before ⟨y, m, d⟩ x } })))))

/-- STAGE_EXTRA writes an entry under its code or removes it; CLEAR_STAGED empties the staged set or copies the active
one (R22, R23). -/
def Obligations.ExtrasAndClearingAreStaged : Prop :=
  ∀ s : State, listening s = true →
    (∀ code kind amount most label k, extraKindOf kind = some k → 1 ≤ code → code ≤ 8 → 1 ≤ amount → amount ≤ 50000 →
      1 ≤ most → most ≤ 8 → labelOk label = true →
      ∃ t, exec (.stageExtraSet code kind amount most label) s = .next t ∧ t.clc.answer = some (.reply 0x9B .ok []) ∧
        t.tfs.staged.extra? code = some ⟨code, k, amount, most, label⟩ ∧
        (∀ c, c ≠ code → t.tfs.staged.extra? c = s.tfs.staged.extra? c) ∧ t.tfs.active = s.tfs.active) ∧
    (∀ code, 1 ≤ code → code ≤ 8 → s.tfs.staged.extra? code ≠ none →
      exec (.stageExtraRemove code) s = .next (answered 0x1B .ok []
        (s.setTfs { s.tfs with
          staged := { s.tfs.staged with extras := s.tfs.staged.extras.filter fun e => e.code != code } }))) ∧
    exec .clearStagedEmpty s = .next (answered 0x1C .ok [] (s.setTfs { s.tfs with staged := ⟨[], [], [], []⟩ })) ∧
    (s.tfs.valid = true →
      exec .clearStagedCopyActive s = .next (answered 0x1C .ok [] (s.setTfs { s.tfs with staged := s.tfs.active }))) ∧
    (s.tfs.valid = false → exec .clearStagedCopyActive s = .next (answered 0x1C .notAllowed [] s))

/-- A commit copies the staged set over the active one, raises the version and evaluates the schedule; the conditions of
Table 2-4 refuse it in their order (R24, R25). -/
def Obligations.CommitCopiesTheStagedSet : Prop :=
  ∀ s : State, listening s = true →
    (s.miu.sealOpen = false → exec .commitTariffs s = .next (answered 0x1D .sealed [] s)) ∧
    (s.miu.sealOpen = true → s.sau.shift ≠ .closed → exec .commitTariffs s = .next (answered 0x1D .notAllowed [] s)) ∧
    (s.miu.sealOpen = true → s.sau.shift = .closed → occupied s = true →
      exec .commitTariffs s = .next (answered 0x1D .notAllowed [] s)) ∧
    (s.miu.sealOpen = true → s.sau.shift = .closed → occupied s = false →
      (s.tfs.staged.tariff? 1 = none → exec .commitTariffs s = .next (answered 0x1D .badField [1, 0xFF] s)) ∧
      (∀ earlier b later, s.tfs.staged.tariff? 1 ≠ none → s.tfs.staged.bands = earlier ++ b :: later →
        (∀ x ∈ earlier, s.tfs.staged.tariff? x.tariff ≠ none) → s.tfs.staged.tariff? b.tariff = none →
        exec .commitTariffs s = .next (answered 0x1D .badField (be 1 2 ++ be 1 earlier.length) s)) ∧
      (s.tfs.staged.tariff? 1 ≠ none → (∀ b ∈ s.tfs.staged.bands, s.tfs.staged.tariff? b.tariff ≠ none) →
        ∃ t, exec .commitTariffs s = .next t ∧
          t.clc.answer = some (.reply 0x9D .ok (be 2 (min (s.tfs.version + 1) 65535))) ∧
          t.tfs.active = s.tfs.staged ∧ t.tfs.staged = s.tfs.staged ∧ t.tfs.valid = true ∧
          t.tfs.version = min (s.tfs.version + 1) 65535 ∧ t.tfs.point = s.tfs.point ∧
          t.tfs.scheduled = scheduledAt s.tfs.staged s.tfs.point ∧ t.sgu.label = scheduledLabel t ∧
          t.fen = s.fen ∧ t.miu = s.miu ∧ t.sau = s.sau ∧ t.vbu = s.vbu ∧ outsideKept s t))

/-- The read requests carry the record named, or are answered NOT_FOUND, and change nothing (R30, R31). The sizes of
some reply fields and the one layout of READ_SET for both sets are the model's reading (log entries 13 and 33). -/
def Obligations.SetsAreRead : Prop :=
  ∀ (s : State) (selector : Nat) (set : TariffSet), listening s = true → selectedSet s selector = some set →
    (∀ n r, 1 ≤ n → n ≤ 8 → set.tariff? n = some r →
      exec (.readTariff selector n) s = .next (answered 0x1E .ok r.toBytes s)) ∧
    (∀ n, 1 ≤ n → n ≤ 8 → set.tariff? n = none →
      exec (.readTariff selector n) s = .next (answered 0x1E .notFound [] s)) ∧
    (∀ n, n < 1 ∨ 8 < n → exec (.readTariff selector n) s = .next (answered 0x1E .badField [] s) ∧
      exec (.readExtra selector n) s = .next (answered 0x21 .badField [] s)) ∧
    (∀ n, n ≤ 15 → set.bands.length ≤ n → exec (.readBand selector n) s = .next (answered 0x1F .notFound [] s)) ∧
    (∀ n, 15 < n → exec (.readBand selector n) s = .next (answered 0x1F .badField [] s)) ∧
    (∀ n, n ≤ 23 → set.holidays.length ≤ n →
      exec (.readHoliday selector n) s = .next (answered 0x20 .notFound [] s)) ∧
    (∀ n, 23 < n → exec (.readHoliday selector n) s = .next (answered 0x20 .badField [] s)) ∧
    (∀ c, 1 ≤ c → c ≤ 8 → set.extra? c = none →
      exec (.readExtra selector c) s = .next (answered 0x21 .notFound [] s)) ∧
    (∀ n b, n ≤ 15 → set.bands[n]? = some b →
      exec (.readBand selector n) s = .next (answered 0x1F .ok (b.toBytes ++ be 1 set.bands.length) s)) ∧
    (∀ n d, n ≤ 23 → set.holidays[n]? = some d →
      exec (.readHoliday selector n) s = .next (answered 0x20 .ok (d.toBytes ++ be 1 set.holidays.length) s)) ∧
    (∀ c e, 1 ≤ c → c ≤ 8 → set.extra? c = some e →
      exec (.readExtra selector c) s = .next (answered 0x21 .ok e.toBytes s)) ∧
    exec (.readSet 0) s = .next (answered 0x22 .ok
      (flagByte s.tfs.valid ++ 1 :: be 2 s.tfs.version ++ (activeSet s).counts ++ be 1 s.tfs.scheduled
        ++ be 2 s.tfs.point.minute ++ be 1 s.tfs.point.dayClass.code ++ [0xFF, 0xFF]) s) ∧
    exec (.readSet 1) s = .next (answered 0x22 .ok
      ([0xFF, 0, 0xFF, 0xFF] ++ s.tfs.staged.counts ++ [0xFF, 0xFF, 0xFF, 0xFF]
        ++ (commitCause s.tfs.staged).getD [0, 0xFF]) s)

/-! ## Hires -/

/-- A HIRE_START that passes makes a RUNNING hire with the next number and the flag fall of its tariff, tells the
neighbours, ends a loop or link test and causes one composition; the other slots stand. The checks refuse it in the
order of Table 3-4 (R35, R36, R61, R167). The events issued and not yet taken are a list in State, the model's choice
(log entry 4). -/
def Obligations.HireStartMakesARunningHire : Prop :=
  (∀ (s : State) (slot party source tariff : Nat) (k : Slot) (src : TariffSource), listening s = true →
      slotOf slot = some k → sourceOf source = some src → 1 ≤ party → party ≤ 6 →
      (src = .fixed → 1 ≤ tariff ∧ tariff ≤ 8) → startRefusal k party src tariff s = none →
      ∃ t h, exec (.hireStart slot party source tariff) s = .next t ∧ t.hire k = some h ∧
        h = { state := .running, number := s.fen.counter + 1, party := party, source := src
              tariff := if src = .schedule then s.tfs.scheduled else tariff, pending := none, startTime := s.cku.now
              startOdometer := s.miu.odometer
              fare := (((activeSet s).tariff? (if src = .schedule then s.tfs.scheduled else tariff)).map (·.flagFall)).getD 0
              charged := 0, forgone := 0, forgoneAmount := 0, distSince := 0, waitSince := 0, hiredDistance := 0
              waitSeconds := 0, extras := [], extrasTotal := 0, bill := none, confirmed := none, tenders := [] } ∧
        t.clc.answer = some (.reply 0xA8 .ok (be 2 h.number ++ be 1 h.tariff)) ∧
        t.fen.counter = s.fen.counter + 1 ∧ otherSlotsKept k s t ∧ t.piu.loop = .none ∧ t.piu.phase = .none ∧
        t.transit = { s.transit with vbu := s.transit.vbu ++ [viewEntries t.fen.slots] } ∧
        t.sgu.desired = desiredImage t ∧
        t.miu = s.miu ∧ t.tfs = s.tfs ∧ t.vbu = s.vbu ∧ t.stu = s.stu ∧ t.tlc = s.tlc ∧ t.sau = s.sau ∧ outsideKept s t) ∧
  (∀ (s : State) (slot party source tariff : Nat) (k : Slot) (src : TariffSource) (st : Status), listening s = true →
      slotOf slot = some k → sourceOf source = some src → 1 ≤ party → party ≤ 6 →
      (src = .fixed → 1 ≤ tariff ∧ tariff ≤ 8) →
      (s.sau.shift ≠ .opened ∧ st = .notAllowed ∨
        s.sau.shift = .opened ∧ s.miu.sealOpen = true ∧ st = .sealed ∨
        s.sau.shift = .opened ∧ s.miu.sealOpen = false ∧ s.miu.kValid = false ∧ st = .notAllowed ∨
        s.sau.shift = .opened ∧ s.miu.sealOpen = false ∧ s.miu.kValid = true ∧
          (s.hire k ≠ none ∨ s.fen.sharing = false ∧ occupied s = true) ∧ st = .notAllowed ∨
        s.sau.shift = .opened ∧ s.miu.sealOpen = false ∧ s.miu.kValid = true ∧ s.hire k = none ∧
          (s.fen.sharing = true ∨ occupied s = false) ∧ freeSeats s < party ∧ st = .full ∨
        s.sau.shift = .opened ∧ s.miu.sealOpen = false ∧ s.miu.kValid = true ∧ s.hire k = none ∧
          (s.fen.sharing = true ∨ occupied s = false) ∧ party ≤ freeSeats s ∧ src = .fixed ∧
          (activeSet s).tariff? tariff = none ∧ st = .badField ∨
        s.sau.shift = .opened ∧ s.miu.sealOpen = false ∧ s.miu.kValid = true ∧ s.hire k = none ∧
          (s.fen.sharing = true ∨ occupied s = false) ∧ party ≤ freeSeats s ∧
          (src = .fixed → (activeSet s).tariff? tariff ≠ none) ∧ 9999 ≤ s.fen.counter ∧ st = .notAllowed) →
      exec (.hireStart slot party source tariff) s = .next (answered 0x28 st [] s)) ∧
  (∀ (s : State) (slot party source tariff : Nat), listening s = true →
      (slotOf slot = none ∨ sourceOf source = none ∨ party < 1 ∨ 6 < party ∨
        source = 1 ∧ (tariff < 1 ∨ 8 < tariff)) →
      exec (.hireStart slot party source tariff) s = .next (answered 0x28 .badField [] s))

/-- HIRE_STOP fixes top-up and due total and freezes the hire; HIRE_RESUME makes a SUSPENDED hire RUNNING with
everything kept; SET_HIRE_TARIFF sets source and pending tariff (R37, R38, R49). A request that names no slot is
BAD_FIELD, one that names an EMPTY slot NOT_ALLOWED (R33). The events issued and not yet taken are a list in State, the
model's choice (log entry 4). -/
def Obligations.HiresStopResumeAndSwitch : Prop :=
  (∀ (s : State) (slot : Nat), listening s = true → slotOf slot = none →
    exec (.hireStop slot) s = .next (answered 0x29 .badField [] s) ∧
    exec (.hireResume slot) s = .next (answered 0x2A .badField [] s) ∧
    (∀ source n, exec (.setHireTariff slot source n) s = .next (answered 0x2B .badField [] s)) ∧
    (∀ code amount, exec (.addExtra slot code amount) s = .next (answered 0x2C .badField [] s)) ∧
    (∀ n, exec (.removeExtra slot n) s = .next (answered 0x2D .badField [] s)) ∧
    exec (.hireAbandon slot) s = .next (answered 0x2E .badField [] s) ∧
    exec (.hireRead slot) s = .next (answered 0x2F .badField [] s)) ∧
  (∀ (s : State) (slot : Nat) (k : Slot), listening s = true → slotOf slot = some k → s.hire k = none →
    exec (.hireStop slot) s = .next (answered 0x29 .notAllowed [] s) ∧
    exec (.hireResume slot) s = .next (answered 0x2A .notAllowed [] s) ∧
    (∀ n, 1 ≤ n → n ≤ 8 → exec (.setHireTariff slot 1 n) s = .next (answered 0x2B .notAllowed [] s) ∧
      exec (.setHireTariff slot 0 n) s = .next (answered 0x2B .notAllowed [] s)) ∧
    (∀ code amount, 1 ≤ code → code ≤ 8 →
      exec (.addExtra slot code amount) s = .next (answered 0x2C .notAllowed [] s)) ∧
    (∀ n, n ≤ 7 → exec (.removeExtra slot n) s = .next (answered 0x2D .notAllowed [] s)) ∧
    exec (.hireAbandon slot) s = .next (answered 0x2E .notAllowed [] s)) ∧
  ∀ (s : State) (slot : Nat) (k : Slot) (h : Hire), listening s = true → slotOf slot = some k → s.hire k = some h →
    (h.state ≠ .running → h.state ≠ .suspended →
      exec (.hireStop slot) s = .next (answered 0x29 .notAllowed [] s) ∧
      (∀ n, 1 ≤ n → n ≤ 8 → exec (.setHireTariff slot 1 n) s = .next (answered 0x2B .notAllowed [] s)) ∧
      (∀ n, exec (.setHireTariff slot 0 n) s = .next (answered 0x2B .notAllowed [] s))) ∧
    (∀ source n, sourceOf source = none ∨ source = 1 ∧ (n < 1 ∨ 8 < n) →
      exec (.setHireTariff slot source n) s = .next (answered 0x2B .badField [] s)) ∧
    (∀ n, (h.state = .running ∨ h.state = .suspended) → 1 ≤ n → n ≤ 8 → (activeSet s).tariff? n = none →
      exec (.setHireTariff slot 1 n) s = .next (answered 0x2B .badField [] s)) ∧
    (∀ r, (h.state = .running ∨ h.state = .suspended) → (activeSet s).tariff? h.tariff = some r →
      exec (.hireStop slot) s = .next (answered 0x29 .ok (be 4 (h.fare + (r.minimumFare - h.fare) + h.extrasTotal))
        (compose (s.setHire k (some { h with
          pending := none, tenders := [], state := .frozen
          bill := some ⟨r.minimumFare - h.fare, h.fare + (r.minimumFare - h.fare) + h.extrasTotal,
            h.fare + (r.minimumFare - h.fare) + h.extrasTotal⟩ }))))) ∧
    (h.state = .suspended → s.sau.shift = .opened → s.miu.sealOpen = false →
      exec (.hireResume slot) s =
        .next (answered 0x2A .ok [] (compose (s.setHire k (some { h with state := .running }))))) ∧
    (h.state = .suspended → s.sau.shift = .opened → s.miu.sealOpen = true →
      exec (.hireResume slot) s = .next (answered 0x2A .sealed [] s)) ∧
    (h.state ≠ .suspended ∨ s.sau.shift ≠ .opened →
      exec (.hireResume slot) s = .next (answered 0x2A .notAllowed [] s)) ∧
    (∀ n p, (h.state = .running ∨ h.state = .suspended) → 1 ≤ n → n ≤ 8 → (activeSet s).tariff? n ≠ none →
      p = (if n = h.tariff then none else some n) →
      exec (.setHireTariff slot 1 n) s = .next (answered 0x2B .ok (be 1 h.tariff ++ optField 1 p)
        (s.setHire k (some { h with source := .fixed, pending := p })))) ∧
    (∀ n p, (h.state = .running ∨ h.state = .suspended) →
      p = (if s.tfs.scheduled = h.tariff then none else some s.tfs.scheduled) →
      exec (.setHireTariff slot 0 n) s = .next (answered 0x2B .ok (be 1 h.tariff ++ optField 1 p)
        (s.setHire k (some { h with source := .schedule, pending := p }))))

/-- ADD_EXTRA appends an entry; a FROZEN or DUE hire is billed again and FROZEN; REMOVE_EXTRA takes an entry away unless
that would pay the hire off (R51, R52). The events issued and not yet taken are a list in State, the model's choice (log
entry 4). -/
def Obligations.ExtrasChangeTheBill : Prop :=
  ∀ (s : State) (slot : Nat) (k : Slot) (h : Hire), listening s = true → slotOf slot = some k → s.hire k = some h →
    (h.state = .running ∨ h.state = .frozen ∨ h.state = .due) →
    (h.state ≠ .running → h.bill ≠ none) →
    (∀ code amount e a, 1 ≤ code → code ≤ 8 → (activeSet s).extra? code = some e →
      (e.kind = .fixedAmount ∧ a = e.amount ∨ e.kind = .variableAmount ∧ 1 ≤ amount ∧ amount ≤ e.amount ∧ a = amount) →
      h.extras.length < 8 → (h.extras.filter fun x => x.code == code).length < e.maxCount →
      ∃ t h', exec (.addExtra slot code amount) s = .next t ∧ t.hire k = some h' ∧
        h'.extras = h.extras ++ [⟨code, a⟩] ∧ h'.extrasTotal = h.extrasTotal + a ∧ h'.fare = h.fare ∧
        h'.tenders = h.tenders ∧ h'.state = (if h.state = .running then .running else .frozen) ∧
        (∀ b, h.state ≠ .running → h.bill = some b → h'.bill = some ⟨b.topUp, h.fare + b.topUp + (h.extrasTotal + a),
          h.fare + b.topUp + (h.extrasTotal + a) - (h.tenders.map (·.amount)).sum⟩) ∧
        t.transit.vbu = s.transit.vbu ++ [viewEntries t.fen.slots] ∧ otherSlotsKept k s t ∧ t.sau = s.sau
          ∧ t.miu = s.miu ∧ outsideKept s t) ∧
    (∀ n x, n ≤ 7 → h.extras[n]? = some x →
      (∀ b, h.state ≠ .running → h.bill = some b →
        (h.tenders.map (·.amount)).sum < h.fare + b.topUp + (h.extrasTotal - x.amount)) →
      ∃ t h', exec (.removeExtra slot n) s = .next t ∧ t.hire k = some h' ∧
        h'.extras = h.extras.eraseIdx n ∧ h'.extrasTotal = h.extrasTotal - x.amount ∧ h'.fare = h.fare ∧
        h'.tenders = h.tenders ∧ h'.state = (if h.state = .running then .running else .frozen) ∧
        (∀ b, h.state ≠ .running → h.bill = some b → h'.bill = some ⟨b.topUp, h.fare + b.topUp + (h.extrasTotal - x.amount),
          h.fare + b.topUp + (h.extrasTotal - x.amount) - (h.tenders.map (·.amount)).sum⟩) ∧
        t.transit.vbu = s.transit.vbu ++ [viewEntries t.fen.slots] ∧ otherSlotsKept k s t ∧ t.sau = s.sau
          ∧ t.miu = s.miu ∧ outsideKept s t) ∧
    (∀ n x b, n ≤ 7 → h.extras[n]? = some x → h.state ≠ .running → h.bill = some b →
      h.fare + b.topUp + (h.extrasTotal - x.amount) ≤ (h.tenders.map (·.amount)).sum →
      exec (.removeExtra slot n) s = .next (answered 0x2D .notAllowed [] s))

/-- HIRE_ABANDON closes a stopped hire as unpaid for its remaining and empties the slot; HIRE_READ answers in every
state and changes nothing (R57, R58, R59). The events issued and not yet taken are a list in State, the model's
choice (log entry 4). The layout of HIRE_READ is the model's reading (log entry 13). -/
def Obligations.HiresAreAbandonedAndRead : Prop :=
  ∀ (s : State) (slot : Nat) (k : Slot) (h : Hire), listening s = true → slotOf slot = some k →
    (s.hire k = some h → (h.state = .frozen ∨ h.state = .due) →
      exec (.hireAbandon slot) s = .next (answered 0x2E .ok (be 4 h.remaining)
        (compose (closeHire k false h.remaining h s)))) ∧
    (s.hire k = some h → h.state ≠ .frozen → h.state ≠ .due →
      exec (.hireAbandon slot) s = .next (answered 0x2E .notAllowed [] s)) ∧
    (s.hire k = none → exec (.hireAbandon slot) s = .next (answered 0x2E .notAllowed [] s)) ∧
    (s.hire k = some h → exec (.hireRead slot) s = .next (answered 0x2F .ok (h.toBytes ++ be 1 (freeSeats s)) s)) ∧
    (s.hire k = none → exec (.hireRead slot) s = .next (answered 0x2F .ok (be 1 0 ++ be 1 (freeSeats s)) s))

/-- A close posts its close record to the shift record: counts, fare, top-up, due total, extras by code, each tender to the
sum of its method, tips, written off and steps (R121); it raises its reason, empties the slot and recomputes the sign (R58),
and it keeps the balance of the payments. -/
def Obligations.CloseKeepsThePaymentBalance : Prop :=
  ∀ (s : State) (k : Slot) (h : Hire) (paid : Bool) (w : Nat) (b : Bill) (v : ShiftRecord), s.sau.shift ≠ .closed →
    s.hire k = some h → h.bill = some b → s.sau.live = v →
    ∃ t, closeHire k paid w h s = t ∧ t.hire k = none ∧ otherSlotsKept k s t ∧
      t.sau = { s.sau with
        live := { v with
          hiresClosed := min (v.hiresClosed + 1) 9999
          hiresPaid := if paid then min (v.hiresPaid + 1) 9999 else v.hiresPaid
          hiresWrittenOff := if paid then v.hiresWrittenOff else min (v.hiresWrittenOff + 1) 9999
          faresSum := min (v.faresSum + h.fare) 999999999999
          topUpsSum := min (v.topUpsSum + b.topUp) 999999999999
          dueSum := min (v.dueSum + b.dueTotal) 999999999999
          extrasSums := v.extrasSums.mapIdx fun j x =>
            min (x + ((h.extras.filter fun e => e.code == j + 1).map (·.amount)).sum) 999999999999
          cashNet := min (v.cashNet + ((h.tenders.filter (·.method == .cash)).map (·.amount)).sum) 999999999999
          account := min (v.account + ((h.tenders.filter (·.method == .account)).map (·.amount)).sum) 999999999999
          cardApproved := min (v.cardApproved + ((h.tenders.filter (·.method == .card)).map (·.amount)).sum) 999999999999
          cardDeferred :=
            min (v.cardDeferred + ((h.tenders.filter (·.method == .cardDeferred)).map (·.amount)).sum) 999999999999
          tipsApproved := min (v.tipsApproved + ((h.tenders.filter (·.method == .card)).map (·.tip)).sum) 999999999999
          tipsDeferred :=
            min (v.tipsDeferred + ((h.tenders.filter (·.method == .cardDeferred)).map (·.tip)).sum) 999999999999
          writtenOff := min (v.writtenOff + w) 999999999999
          stepsCharged := min (v.stepsCharged + h.charged) 4294967295
          stepsForgone := min (v.stepsForgone + h.forgone) 4294967295
          forgoneAmount := min (v.forgoneAmount + h.forgoneAmount) 999999999999 } } ∧
      ((h.tenders.map (·.amount)).sum + w = b.dueTotal →
        v.dueSum = v.cashNet + v.cardApproved + v.cardDeferred + v.account + v.writtenOff →
        v.dueSum + b.dueTotal ≤ 999999999999 →
        t.sau.live.dueSum = v.dueSum + b.dueTotal ∧
        t.sau.live.dueSum = t.sau.live.cashNet + t.sau.live.cardApproved + t.sau.live.cardDeferred + t.sau.live.account
          + t.sau.live.writtenOff) ∧
      t.clc.notices.get (hireKind k) = (s.clc.notices.get (hireKind k)).addReason (if paid then 4 else 5) ∧
      t.sgu.desired = desiredImage t

/-- The FEN takes its oldest band change: RUNNING and SUSPENDED hires of source SCHEDULE get or lose their pending
tariff, the others stand (R47). The list of events issued and not yet taken, from which the command takes the oldest, is
the model's choice (log entry 4). -/
def Obligations.BandChangeSetsPendingTariffs : Prop :=
  ∀ (s : State) (n : Nat) (rest : List FenEvent), powered s = true → s.transit.fen = .bandChange n :: rest →
    ∃ t, exec .fenBandChange s = .next t ∧ t.transit = { s.transit with fen := rest } ∧
      (∀ k h, s.hire k = some h →
        ((h.state = .running ∨ h.state = .suspended) ∧ h.source = .schedule →
          t.hire k = some { h with pending := if n = h.tariff then none else some n }) ∧
        (¬ ((h.state = .running ∨ h.state = .suspended) ∧ h.source = .schedule) → t.hire k = some h)) ∧
      (∀ k, s.hire k = none → t.hire k = none) ∧ t.clc = s.clc ∧ t.fen.counter = s.fen.counter ∧ t.vbu = s.vbu ∧
      t.sau = s.sau ∧ t.miu = s.miu ∧ t.tfs = s.tfs ∧ outsideKept s t

/-- The FEN takes its oldest second report. One that is not NORMAL credits nothing; a NORMAL one is applied to each
RUNNING hire in slot order, each against the display lag count that the lower slots left, with STEPS_FORGONE and
TARIFF_SWITCHED where they come about; the hires in other states take nothing, and one composition follows a charge or a
switch (R41, R42, R45, R46, R61). A charged step that brings the count to 0 begins DISPLAY_STALE: reported to the CLC, one
episode posted (R74), with lag limit 1 also at a step charged after a SHOWN, where R76 says otherwise: the model's choice (log
entry 40). The list of events issued and not yet taken, from which the command takes the oldest, is the model's
choice (log entry 4). That a row naming such an outcome does nothing when the outcome does not come about is the model's
choice (log entry 5). -/
def Obligations.ReportIsAppliedToRunningHires : Prop :=
  (∀ (s : State) (r : SecondReport) (rest : List FenEvent), powered s = true → s.transit.fen = .report r :: rest →
      (r.mark ≠ .normal → exec .fenSecondReport s = .next (s.setTransit { s.transit with fen := rest })) ∧
      (r.mark = .normal →
        ∃ (t : State) (lag : Nat → Nat) (moved : Slot → Bool), exec .fenSecondReport s = .next t ∧
          lag 0 = s.vbu.lagCount ∧ t.vbu = { s.vbu with lagCount := lag 4 } ∧
          (∀ k, s.hireState k ≠ some .running →
            t.hire k = s.hire k ∧ lag (k.toNat + 1) = lag k.toNat ∧ moved k = false ∧
            t.clc.notices.get (hireKind k) = s.clc.notices.get (hireKind k)) ∧
          (∀ k h a n, s.hire k = some h → h.state = .running →
            a = accrue (activeSet s) (2 ≤ runningCount s.fen.slots) r.metres (lag k.toNat) h →
            n = (if a.forgone then (s.clc.notices.get (hireKind k)).addReason 6 else s.clc.notices.get (hireKind k)) →
            t.hire k = some a.hire ∧ lag (k.toNat + 1) = a.lag ∧ moved k = (a.charged || a.switched) ∧
            t.clc.notices.get (hireKind k) = if a.switched then n.addReason 1 else n) ∧
          t.transit = { s.transit with
            fen := rest
            vbu := s.transit.vbu ++
              if moved .s0 || moved .s1 || moved .s2 || moved .s3 then [viewEntries t.fen.slots] else [] } ∧
          (0 < lag 4 ∨ s.vbu.lagCount = 0 →
            t.sau = s.sau ∧ t.clc.notices.displayStale = s.clc.notices.displayStale) ∧
          t.fen.counter = s.fen.counter ∧ t.miu = s.miu ∧ t.tfs = s.tfs ∧
          t.stu = s.stu ∧ t.tlc = s.tlc ∧ t.sgu = s.sgu ∧ t.piu = s.piu ∧ outsideKept s t)) ∧
  (∀ (s : State) (r : SecondReport) (rest : List FenEvent), powered s = true → s.transit.fen = .report r :: rest →
      0 < s.vbu.lagCount → s.sau.shift = .opened →
      (applyReport r (s.setTransit { s.transit with fen := rest })).vbu.lagCount = 0 →
      ∃ t, exec .displayStaleOnset s = .next t ∧ t.vbu.lagCount = 0 ∧ t.clc.notices.displayStale.holds = true ∧
        (s.clc.notices.displayStale.enabled = true → t.clc.notices.displayStale.raised = true) ∧
        t.sau.live.staleEpisodes = min (s.sau.live.staleEpisodes + 1) 65535 ∧ exec .fenSecondReport s = .next t)

/-- What a NORMAL report does to a RUNNING hire. At or above the crossover its metres are credited, below it a wait second
(R42); steps fall for as long as a threshold is reached (R43), each at the step amount or the shared step amount (R44). As
many as the display lag count allows are charged, each taking one from the count; the rest are forgone, in number and
amount, and leave the fare as it is (R45). With a pending tariff the first step switches to it and clears both counters
(R46). In every case no fare rises at count 0, and distance since step and wait since step end below the thresholds of the
current tariff (R43, R73, section 3.1). -/
def Obligations.StepsDrawOnTheLagCount : Prop :=
  (∀ (set : TariffSet) (shared : Bool) (metres lag n cost : Nat) (h : Hire) (r : Tariff),
      set.tariff? h.tariff = some r → (∀ q ∈ set.tariffs, 1 ≤ q.stepDistance ∧ 1 ≤ q.stepWait) →
      cost = (if shared then r.sharedStep else r.stepAmount) → h.distSince < r.stepDistance →
      h.waitSince < r.stepWait → h.fare ≤ 99000000 → h.charged ≤ 65535 → h.forgone ≤ 65535 →
      h.forgoneAmount ≤ 99999999 →
      (r.crossover ≤ metres → n = (h.distSince + metres) / r.stepDistance → (h.pending = none ∨ n = 0) →
        accrue set shared metres lag h =
          ⟨{ h with
              distSince := (h.distSince + metres) % r.stepDistance, waitSince := if n = 0 then h.waitSince else 0
              hiredDistance := min (h.hiredDistance + metres) 4294967295
              fare := min (h.fare + min n lag * cost) 99000000, charged := min (h.charged + min n lag) 65535
              forgone := min (h.forgone + (n - lag)) 65535
              forgoneAmount := min (h.forgoneAmount + (n - lag) * cost) 99999999 },
            lag - n, decide (0 < min n lag), decide (lag < n), false⟩) ∧
      (metres < r.crossover → n = (if h.waitSince + 1 = r.stepWait then 1 else 0) → (h.pending = none ∨ n = 0) →
        accrue set shared metres lag h =
          ⟨{ h with
              distSince := if n = 0 then h.distSince else 0, waitSince := if n = 0 then h.waitSince + 1 else 0
              waitSeconds := min (h.waitSeconds + 1) 4294967295
              fare := min (h.fare + min n lag * cost) 99000000, charged := min (h.charged + min n lag) 65535
              forgone := min (h.forgone + (n - lag)) 65535
              forgoneAmount := min (h.forgoneAmount + (n - lag) * cost) 99999999 },
            lag - n, decide (0 < min n lag), decide (lag < n), false⟩) ∧
      (∀ p, h.pending = some p →
        (r.crossover ≤ metres ∧ r.stepDistance ≤ h.distSince + metres ∨
          metres < r.crossover ∧ h.waitSince + 1 = r.stepWait) →
        accrue set shared metres lag h =
          ⟨{ h with
              tariff := p, pending := none, distSince := 0, waitSince := 0
              hiredDistance := if r.crossover ≤ metres then min (h.hiredDistance + metres) 4294967295 else h.hiredDistance
              waitSeconds := if r.crossover ≤ metres then h.waitSeconds else min (h.waitSeconds + 1) 4294967295
              fare := min (h.fare + min 1 lag * cost) 99000000, charged := min (h.charged + min 1 lag) 65535
              forgone := min (h.forgone + (1 - lag)) 65535
              forgoneAmount := min (h.forgoneAmount + (1 - lag) * cost) 99999999 },
            lag - 1, decide (0 < lag), decide (lag = 0), true⟩)) ∧
  (∀ (set : TariffSet) (shared : Bool) (metres lag : Nat) (h : Hire), h.fare ≤ 99000000 →
      (accrue set shared metres lag h).lag ≤ lag ∧ h.fare ≤ (accrue set shared metres lag h).hire.fare ∧
      (lag = 0 → (accrue set shared metres lag h).hire.fare = h.fare
        ∧ (accrue set shared metres lag h).hire.charged = h.charged ∧ (accrue set shared metres lag h).charged = false) ∧
      ((accrue set shared metres lag h).lag = lag → (accrue set shared metres lag h).hire.fare = h.fare)) ∧
  (∀ (set : TariffSet) (shared : Bool) (metres lag : Nat) (h : Hire) (t : Tariff),
      (∀ r ∈ set.tariffs, 1 ≤ r.stepDistance ∧ 1 ≤ r.stepWait) → set.tariff? h.tariff ≠ none →
      set.tariff? (accrue set shared metres lag h).hire.tariff = some t →
      (accrue set shared metres lag h).hire.distSince < t.stepDistance
        ∧ (accrue set shared metres lag h).hire.waitSince < t.stepWait)

/-! ## The fare view -/

/-- A composition writes a snapshot with the next number into WRITE, exchanges WRITE and READY and counts a snapshot
never taken; CONSOLE stands (R67). The list of events issued and not yet taken, from which the command takes the oldest,
is the model's choice (log entry 4). -/
def Obligations.CompositionExchangesWriteAndReady : Prop :=
  ∀ (s : State) (entries : Four (Option ViewEntry)) (rest : List (Four (Option ViewEntry))), powered s = true →
    s.transit.vbu = entries :: rest → ViewRolesHeld s →
    ∃ t, exec .composition s = .next t ∧ t.transit = { s.transit with vbu := rest } ∧
      t.vbu.seq = (s.vbu.seq + 1) % 65536 ∧ t.vbu.ready = s.vbu.write ∧ t.vbu.write = s.vbu.ready ∧
      t.vbu.console = s.vbu.console ∧
      t.vbu.get t.vbu.ready = some ⟨(s.vbu.seq + 1) % 65536, s.cku.now, entries⟩ ∧
      t.vbu.get t.vbu.console = s.vbu.get s.vbu.console ∧
      t.vbu.overwritten = (if (s.vbu.get s.vbu.ready).isSome then min (s.vbu.overwritten + 1) 65535
        else s.vbu.overwritten) ∧
      t.vbu.lagCount = s.vbu.lagCount ∧ t.vbu.lagLimit = s.vbu.lagLimit ∧ t.clc = s.clc ∧ t.fen = s.fen ∧ t.sau = s.sau
        ∧ t.miu = s.miu ∧ outsideKept s t

/-- TAKE_VIEW moves the snapshot in READY to CONSOLE and empties READY; with READY empty the roles stand (R68). SHOWN with
another number than the CONSOLE snapshot's is NOT_FOUND; with its number the count is reloaded, DISPLAY_STALE ends and a
confirmation goes to the FEN (R70, R71). That the count is the whole lag limit also after a step charged just before is the
model's choice between two sentences of the manual (log entry 40). The events issued and not yet taken are a list in State,
the model's choice (log entry 4). -/
def Obligations.ViewIsTakenAndShown : Prop :=
  (∀ s : State, listening s = true → ViewRolesHeld s →
      ∃ t x p, exec .takeView s = .next t ∧
        t.clc = { s.clc with answer := some (.reply 0xB0 .ok (flagByte x ++ be 1 s.vbu.lagCount ++ p)) } ∧
        x = (s.vbu.get s.vbu.ready).isSome ∧ t.vbu.lagCount = s.vbu.lagCount ∧ t.vbu.get t.vbu.ready = none ∧
        (x = true → t.vbu.ready = s.vbu.console ∧ t.vbu.console = s.vbu.ready) ∧ t.vbu.write = s.vbu.write ∧
        t.vbu.get t.vbu.write = s.vbu.get s.vbu.write ∧ t.vbu.seq = s.vbu.seq ∧ t.vbu.lagLimit = s.vbu.lagLimit ∧
        t.vbu.overwritten = s.vbu.overwritten ∧
        t.vbu.get t.vbu.console = (if x then s.vbu.get s.vbu.ready else s.vbu.get s.vbu.console) ∧
        (x = false → t.vbu = s.vbu) ∧
        (∀ y, t.vbu.get t.vbu.console = some y → p = flagByte true ++ y.toBytes) ∧
        (t.vbu.get t.vbu.console = none → p = flagByte false) ∧
        t.fen = s.fen ∧ t.sau = s.sau ∧ t.transit = s.transit ∧ outsideKept s t) ∧
  (∀ (s : State) (q : Nat), listening s = true →
      (s.vbu.get s.vbu.console = none → exec (.shown q) s = .next (answered 0x31 .notFound [] s)) ∧
      (∀ x, s.vbu.get s.vbu.console = some x → x.seq ≠ q → exec (.shown q) s = .next (answered 0x31 .notFound [] s)) ∧
      (∀ x, s.vbu.get s.vbu.console = some x → x.seq = q →
        ∃ t, exec (.shown q) s = .next t ∧ t.clc.answer = some (.reply 0xB1 .ok (be 2 q ++ be 1 s.vbu.lagLimit)) ∧
          t.vbu = { s.vbu with lagCount := s.vbu.lagLimit } ∧
          t.transit = { s.transit with fen := s.transit.fen ++ [.confirm x.entries] } ∧
          t.clc.notices.displayStale.raised = s.clc.notices.displayStale.raised ∧
          (s.vbu.lagCount = 0 → t.clc.notices.displayStale.holds = false) ∧ t.fen = s.fen ∧ t.sau = s.sau
            ∧ t.miu = s.miu ∧ outsideKept s t))

/-- A confirmation sets the confirmed fare of each hire it names; a FROZEN hire shown FROZEN with its due total becomes
DUE with DUE_REACHED; any other keeps its state (R53). The list of events issued and not yet taken, from which the
command takes the oldest, is the model's choice (log entry 4). -/
def Obligations.ConfirmationMakesFrozenHiresDue : Prop :=
  ∀ (s : State) (entries : Four (Option ViewEntry)) (rest : List FenEvent), powered s = true →
    s.transit.fen = .confirm entries :: rest →
    ∃ t, exec .confirmation s = .next t ∧ t.transit.fen = rest ∧
      (∀ k e h, entries.get k = some e → s.hire k = some h → h.number = e.number →
        (h.state = .frozen ∧ e.state = .frozen ∧ e.dueTotal ≠ none ∧ e.dueTotal = h.bill.map (·.dueTotal) →
          t.hire k = some { h with confirmed := some (e.dueTotal.getD (e.fare + e.extrasTotal)), state := .due } ∧
          t.clc.notices.get (hireKind k) = (s.clc.notices.get (hireKind k)).addReason 2) ∧
        (¬ (h.state = .frozen ∧ e.state = .frozen ∧ e.dueTotal ≠ none ∧ e.dueTotal = h.bill.map (·.dueTotal)) →
          t.hire k = some { h with confirmed := some (e.dueTotal.getD (e.fare + e.extrasTotal)) })) ∧
      (∀ k, entries.get k = none → t.hire k = s.hire k) ∧
      (∀ k e h, entries.get k = some e → s.hire k = some h → h.number ≠ e.number → t.hire k = s.hire k) ∧
      t.vbu = s.vbu ∧ t.sau = s.sau ∧ t.stu = s.stu ∧ t.tlc = s.tlc ∧ t.sgu = s.sgu ∧ t.miu = s.miu ∧ outsideKept s t

/-! ## Settlement -/

/-- PRESENT_CARD opens a session for what remains, shows it on the terminal and makes the hire PAYING (R84, R54).
CANCEL_PAYMENT withdraws the entry that could still pay, releases the hire and tells the terminal; in RESULT it is
refused (R91). The events issued and not yet taken are a list in State, the model's choice (log entry 4). -/
def Obligations.CardPaymentsBeginAndAreCancelled : Prop :=
  ∀ (s : State) (slot : Nat) (k : Slot) (h : Hire), listening s = true → slotOf slot = some k → s.hire k = some h →
    (h.state = .due → s.tlc.session ≠ none → exec (.presentCard slot) s = .next (answered 0x38 .busy [] s)) ∧
    (h.state = .due → s.tlc.session = none → s.tlc.up = false →
      exec (.presentCard slot) s = .next (answered 0x38 .notAllowed [] s)) ∧
    (h.state = .due → s.tlc.session = none → s.tlc.up = true →
      ∃ t, exec (.presentCard slot) s = .next t ∧ t.hire k = some { h with state := .paying } ∧
        t.tlc.session = some ⟨.inPhase .showing, k, h.number, h.remaining, h.remaining / 2, none⟩ ∧
        t.tlc.slot = some (.showAmount h.number h.remaining (h.remaining / 2)) ∧
        t.clc.answer = some (.reply 0xB8 .ok (be 4 h.remaining ++ be 4 (h.remaining / 2))) ∧
        t.transit.vbu = s.transit.vbu ++ [viewEntries t.fen.slots] ∧ otherSlotsKept k s t ∧ t.stu = s.stu ∧
        t.sau = s.sau ∧ t.piu = s.piu ∧ t.miu = s.miu ∧ t.vbu = s.vbu ∧ outsideKept s t) ∧
    (h.state ≠ .due → exec (.presentCard slot) s = .next (answered 0x38 .notAllowed [] s)) ∧
    (∀ v, h.state = .paying → s.tlc.session = some v → v.slot = k → v.state = .result →
      exec (.cancelPayment slot) s = .next (answered 0x39 .notAllowed [] s)) ∧
    (∀ v, h.state = .paying → s.tlc.session = some v → v.slot = k → v.state ≠ .result →
      ∃ t, exec (.cancelPayment slot) s = .next t ∧ t.hire k = some { h with state := .due } ∧
        t.tlc.session = some { v with state := .result, current := none } ∧ t.tlc.slot = some .cancel ∧
        t.stu.queue = s.stu.queue.map (fun e =>
          if e.slot = k ∧ (e.state = .queued ∨ e.state = .handed) then { e with state := .withdrawn } else e) ∧
        t.clc.notices.get (hireKind k) = (s.clc.notices.get (hireKind k)).addReason 3 ∧
        t.clc.answer = some (.reply 0xB9 .ok []) ∧
        t.piu = (if v.inPin then { s.piu with pinMute := .hold 2000 } else s.piu) ∧ otherSlotsKept k s t ∧
        t.sau = s.sau ∧ t.miu = s.miu ∧ t.vbu = s.vbu ∧ outsideKept s t) ∧
    (h.state = .paying → (∀ v, s.tlc.session = some v → v.slot ≠ k) →
      ∃ t, exec (.cancelPayment slot) s = .next t ∧ t.hire k = some { h with state := .due } ∧ t.tlc = s.tlc ∧
        t.stu.queue = s.stu.queue.map (fun e =>
          if e.slot = k ∧ (e.state = .queued ∨ e.state = .handed) then { e with state := .withdrawn } else e) ∧
        t.clc.notices.get (hireKind k) = (s.clc.notices.get (hireKind k)).addReason 3 ∧
        t.clc.answer = some (.reply 0xB9 .ok []) ∧ t.piu = s.piu ∧ otherSlotsKept k s t ∧ t.sau = s.sau ∧ t.miu = s.miu ∧
        t.vbu = s.vbu ∧ outsideKept s t)

/-- NEXT_AUTH hands out the oldest QUEUED entry without touching its deadline, and AUTH_WAITING ends with the last
QUEUED entry (R94, R95). AUTH_READ carries the entry at an index and changes nothing (R96). At its deadline an entry
leaves the queue; one that could still pay its hire returns it to DUE with TIMED_OUT for the session, another has no
further effect (R102). The events issued and not yet taken are a list in State, the model's choice (log entry 4). The layout
of AUTH_READ is the model's reading (log entry 13), and that an expiry acts whatever time is left its choice (log entry 2). -/
def Obligations.AuthEntriesAreHandedReadAndExpire : Prop :=
  (∀ s : State, listening s = true →
      ((∀ e ∈ s.stu.queue, e.state ≠ .queued) → exec .nextAuth s = .next (answered 0x3A .notFound [] s)) ∧
      (∀ older e newer, s.stu.queue = older ++ e :: newer → (∀ x ∈ older, x.state ≠ .queued) → e.state = .queued →
        (s.stu.queue.map (·.id)).Nodup →
        ∃ t, exec .nextAuth s = .next t ∧
          t.stu = { s.stu with queue := older ++ { e with state := .handed } :: newer } ∧
          t.clc.answer = some (.reply 0xBA .ok (e.recordBytes ++ be 3 e.deadline)) ∧
          t.clc.notices.authWaiting =
            (if newer.any (fun x => x.state == .queued) then s.clc.notices.authWaiting
              else { s.clc.notices.authWaiting with holds := false }) ∧
          t.tlc = s.tlc ∧ t.fen = s.fen ∧ t.sau = s.sau ∧ t.transit = s.transit ∧ t.piu = s.piu ∧ outsideKept s t) ∧
      (∀ n, 7 < n → exec (.authRead n) s = .next (answered 0x3C .badField [] s)) ∧
      (∀ n, n ≤ 7 → s.stu.queue.length ≤ n → exec (.authRead n) s = .next (answered 0x3C .notFound [] s)) ∧
      (∀ n e, n ≤ 7 → s.stu.queue[n]? = some e →
        exec (.authRead n) s = .next (answered 0x3C .ok
          (e.recordBytes ++ be 1 e.state.code ++ be 3 e.deadline ++ be 1 s.stu.queue.length) s))) ∧
  (∀ (s : State) (id : Nat) (e : AuthEntry), powered s = true → authEntry s id = some e →
      ((e.state = .queued ∨ e.state = .handed) → ∀ h, s.hire e.slot = some h → h.state = .paying →
        ∃ t, exec (.authDeadlineExpiry id) s = .next t ∧ t.hire e.slot = some { h with state := .due } ∧
          otherSlotsKept e.slot s t ∧ t.stu = { s.stu with queue := s.stu.queue.filter fun x => x.id != id } ∧
          t.clc.notices.get (hireKind e.slot) = (s.clc.notices.get (hireKind e.slot)).addReason 3 ∧
          (∀ v, s.tlc.session = some v → v.slot = e.slot → v.hire = e.hire → v.state ≠ .result →
            t.tlc.slot = some (.result .timedOut none)
              ∧ t.tlc.session = some { v with state := .result, current := none }) ∧
          (s.tlc.session = none → t.tlc = s.tlc) ∧ t.sau = s.sau ∧ t.miu = s.miu ∧ t.vbu = s.vbu ∧ outsideKept s t) ∧
      ((e.state = .superseded ∨ e.state = .withdrawn) → (s.stu.queue.map (·.id)).Nodup →
        exec (.authDeadlineExpiry id) s =
          .next (s.setStu { s.stu with queue := s.stu.queue.filter fun x => x.id != id })))

/-- The checks of VERDICT in their order (R97), and what a verdict on a HANDED entry does: APPROVE and DEFER record the
card tender and close the hire as paid, DECLINE returns it to DUE, and each removes the entry and gives its result (R98,
R99, R101, R106). A DEFER lists a deferred entry under the first unused id after the last one issued and posts its exposure
(R106, R122). That every OK reply has the place of the deferred id is the model's reading (log entry 33). -/
def Obligations.VerdictsDecideEntries : Prop :=
  (∀ (s : State) (id : Nat) (code : Option (List Byte)), listening s = true → (id < 1 ∨ 255 < id) →
    exec (.verdictApprove id code) s = .next (answered 0x3B .badField [] s) ∧
    exec (.verdictDecline id code) s = .next (answered 0x3B .badField [] s) ∧
    exec (.verdictDefer id code) s = .next (answered 0x3B .badField [] s)) ∧
  ∀ (s : State) (id : Nat) (approval : Option (List Byte)), listening s = true → 1 ≤ id → id ≤ 255 →
    approvalOk approval = true →
    (authEntry s id = none → exec (.verdictApprove id approval) s = .next (answered 0x3B .notFound [] s) ∧
      exec (.verdictDecline id none) s = .next (answered 0x3B .notFound [] s) ∧
      exec (.verdictDefer id none) s = .next (answered 0x3B .notFound [] s)) ∧
    (∀ e st, authEntry s id = some e →
      ((e.state = .superseded ∨ e.state = .withdrawn) ∧ st = .conflict ∨ e.state = .queued ∧ st = .notAllowed) →
      exec (.verdictApprove id approval) s = .next (answered 0x3B st [] s) ∧
      exec (.verdictDecline id none) s = .next (answered 0x3B st [] s) ∧
      exec (.verdictDefer id none) s = .next (answered 0x3B st [] s)) ∧
    (∀ code, approvalOk (some code) = false →
      exec (.verdictApprove id (some code)) s = .next (answered 0x3B .badField [] s)) ∧
    (∀ code, exec (.verdictDecline id (some code)) s = .next (answered 0x3B .badField [] s) ∧
      exec (.verdictDefer id (some code)) s = .next (answered 0x3B .badField [] s)) ∧
    (∀ e h, authEntry s id = some e → e.state = .handed → s.hire e.slot = some h → h.state = .paying →
      h.remaining = e.amount → h.bill ≠ none →
      (∃ t, exec (.verdictApprove id approval) s = .next t ∧ t.hire e.slot = none ∧ otherSlotsKept e.slot s t ∧
        t.stu.queue = s.stu.queue.filter (fun x => x.id != id) ∧ t.stu.deferred = s.stu.deferred ∧
        t.clc.answer = some (.reply 0xBB .ok [0, 0xFF]) ∧
        t.clc.notices.get (hireKind e.slot) = (s.clc.notices.get (hireKind e.slot)).addReason 4 ∧
        (s.sau.shift ≠ .closed → t.sau.live = postClose true 0 (h.tendered ⟨.card, e.amount, e.tip, []⟩) s.sau.live) ∧
        (∀ v, s.tlc.session = some v → v.slot = e.slot → v.hire = e.hire → v.state ≠ .result →
          t.tlc.slot = some (.result .approved approval)
            ∧ t.tlc.session = some { v with state := .result, current := none }) ∧
        (s.tlc.session = none → t.tlc = s.tlc ∧ t.clc.notices.terminal = s.clc.notices.terminal.addReason 4) ∧
        t.miu = s.miu ∧ t.tfs = s.tfs ∧ t.vbu = s.vbu ∧ outsideKept s t) ∧
      (∃ t, exec (.verdictDecline id none) s = .next t ∧ t.hire e.slot = some { h with state := .due } ∧
        otherSlotsKept e.slot s t ∧ t.stu.queue = s.stu.queue.filter (fun x => x.id != id) ∧ t.sau = s.sau ∧
        t.clc.answer = some (.reply 0xBB .ok [0, 0xFF]) ∧
        t.clc.notices.get (hireKind e.slot) = (s.clc.notices.get (hireKind e.slot)).addReason 3 ∧
        (∀ v, s.tlc.session = some v → v.slot = e.slot → v.hire = e.hire → v.state ≠ .result →
          t.tlc.slot = some (.result .declined none)
            ∧ t.tlc.session = some { v with state := .result, current := none }) ∧
        (s.tlc.session = none → t.tlc = s.tlc ∧ t.clc.notices.terminal = s.clc.notices.terminal) ∧
        t.miu = s.miu ∧ t.tfs = s.tfs ∧ t.vbu = s.vbu ∧ outsideKept s t) ∧
      (s.stu.floor < e.amount + e.tip ∨ s.stu.ceiling < s.sau.live.exposure + e.amount + e.tip →
        exec (.verdictDefer id none) s = .next (answered 0x3B .limit [] s)) ∧
      (e.amount + e.tip ≤ s.stu.floor → s.sau.live.exposure + e.amount + e.tip ≤ s.stu.ceiling →
        32 ≤ s.stu.deferred.length → exec (.verdictDefer id none) s = .next (answered 0x3B .full [] s)) ∧
      (e.amount + e.tip ≤ s.stu.floor → s.sau.live.exposure + e.amount + e.tip ≤ s.stu.ceiling →
        s.stu.deferred.length < 32 →
        ∃ t d, exec (.verdictDefer id none) s = .next t ∧ t.hire e.slot = none ∧ otherSlotsKept e.slot s t ∧
          t.stu.queue = s.stu.queue.filter (fun x => x.id != id) ∧ t.stu.deferred = s.stu.deferred ++ [d] ∧
          d = { id := t.stu.lastDeferredId, shift := s.sau.number, hire := e.hire, amount := e.amount, tip := e.tip
                token := e.token, time := s.cku.now, aged := false } ∧
          (s.stu.lastDeferredId ≤ 255 →
            ∃ j, d.id = (s.stu.lastDeferredId + j) % 255 + 1 ∧ (∀ x ∈ s.stu.deferred, x.id ≠ d.id) ∧
              ∀ i, i < j → ∃ x ∈ s.stu.deferred, x.id = (s.stu.lastDeferredId + i) % 255 + 1) ∧
          t.clc.answer = some (.reply 0xBB .ok (1 :: be 1 d.id)) ∧
          t.clc.notices.get (hireKind e.slot) = (s.clc.notices.get (hireKind e.slot)).addReason 4 ∧
          (s.sau.shift ≠ .closed →
            t.sau.live = postClose true 0 (h.tendered ⟨.cardDeferred, e.amount, e.tip, []⟩)
              { s.sau.live with exposure := min (s.sau.live.exposure + (e.amount + e.tip)) 99999999 }) ∧
          (∀ v, s.tlc.session = some v → v.slot = e.slot → v.hire = e.hire → v.state ≠ .result →
            t.tlc.slot = some (.result .approvedOffline none)
              ∧ t.tlc.session = some { v with state := .result, current := none }) ∧
          (s.tlc.session = none → t.tlc = s.tlc ∧ t.clc.notices.terminal = s.clc.notices.terminal.addReason 4) ∧
          t.miu = s.miu ∧ t.tfs = s.tfs ∧ t.vbu = s.vbu ∧ outsideKept s t))

/-- Cash that covers the remaining closes the hire and gives change; a partial tender, in cash or on account, lowers the
remaining; no more than two partial tenders are taken, and on account no more than the remaining (R56, R104, R105). The
layout of the CASH_TENDER reply is the model's reading (log entry 14), and that a hire with a due total of 0 is closed by a
cash tender of 0 its choice (log entry 37). The events issued and not yet taken are a list in
State, the model's choice (log entry 4). -/
def Obligations.CashAndAccountTendersAreTaken : Prop :=
  ∀ (s : State) (slot : Nat) (k : Slot) (h : Hire) (amount : Nat), listening s = true → slotOf slot = some k →
    s.hire k = some h → h.state = .due → h.bill ≠ none → 1 ≤ amount → amount ≤ 99999999 →
    (h.remaining ≤ amount →
      exec (.cashTender slot amount) s = .next (answered 0x3D .ok
        (be 4 h.remaining ++ optField 4 (if amount = h.remaining then none else some (amount - h.remaining)) ++ [1]
          ++ absentField 4)
        (compose (closeHire k true 0 (h.tendered ⟨.cash, h.remaining, 0, []⟩) s)))) ∧
    (amount < h.remaining → h.tenders.length < 2 →
      ∃ t h', exec (.cashTender slot amount) s = .next t ∧ t.hire k = some h' ∧ h'.state = .due ∧
        h'.tenders = h.tenders ++ [⟨.cash, amount, 0, []⟩] ∧ h'.remaining = h.remaining - amount ∧ h'.fare = h.fare ∧
        t.clc.answer = some (.reply 0xBD .ok (absentField 4 ++ absentField 4 ++ [0] ++ be 4 (h.remaining - amount))) ∧
        t.transit.vbu = s.transit.vbu ++ [viewEntries t.fen.slots] ∧ otherSlotsKept k s t ∧ t.sau = s.sau ∧
        t.stu = s.stu ∧ t.miu = s.miu ∧ outsideKept s t) ∧
    (amount < h.remaining → 2 ≤ h.tenders.length →
      exec (.cashTender slot amount) s = .next (answered 0x3D .badField [] s)) ∧
    (∀ account, accountOk account = true → amount = h.remaining →
      exec (.accountTender slot account amount) s = .next (answered 0x3E .ok (be 4 0 ++ [1])
        (compose (closeHire k true 0 (h.tendered ⟨.account, amount, 0, account⟩) s)))) ∧
    (∀ account, accountOk account = true → amount < h.remaining → h.tenders.length < 2 →
      ∃ t h', exec (.accountTender slot account amount) s = .next t ∧ t.hire k = some h' ∧ h'.state = .due ∧
        h'.tenders = h.tenders ++ [⟨.account, amount, 0, account⟩] ∧ h'.remaining = h.remaining - amount ∧
        h'.fare = h.fare ∧ t.clc.answer = some (.reply 0xBE .ok (be 4 (h.remaining - amount) ++ [0])) ∧
        t.transit.vbu = s.transit.vbu ++ [viewEntries t.fen.slots] ∧ otherSlotsKept k s t ∧ t.sau = s.sau ∧
        t.stu = s.stu ∧ t.miu = s.miu ∧ outsideKept s t) ∧
    (∀ account, accountOk account = true →
      (h.remaining < amount ∨ 2 ≤ h.tenders.length ∧ amount ≠ h.remaining) →
      exec (.accountTender slot account amount) s = .next (answered 0x3E .badField [] s))

/-- DEFERRED_OUTCOME removes the entry and posts the late outcome; DEFERRED_READ carries an entry and changes nothing
(R108, R110, R122). The layout of DEFERRED_READ is the model's reading (log entry 13). -/
def Obligations.DeferredEntriesAreReportedAndRead : Prop :=
  ∀ (s : State), listening s = true →
    (∀ id outcome, 1 ≤ id → id ≤ 255 → outcome ≤ 1 → s.sau.shift = .closed →
      exec (.deferredOutcome id outcome) s = .next (answered 0x3F .notAllowed [] s)) ∧
    (∀ id outcome, 1 ≤ id → id ≤ 255 → outcome ≤ 1 → s.sau.shift ≠ .closed → (∀ d ∈ s.stu.deferred, d.id ≠ id) →
      exec (.deferredOutcome id outcome) s = .next (answered 0x3F .notFound [] s)) ∧
    (∀ id outcome d, 1 ≤ id → id ≤ 255 → outcome ≤ 1 → s.sau.shift ≠ .closed →
      s.stu.deferred.find? (fun x => x.id == id) = some d →
      exec (.deferredOutcome id outcome) s = .next (answered 0x3F .ok []
        ((s.setStu { s.stu with deferred := s.stu.deferred.filter fun x => x.id != id }).setSau
          { s.sau with
            live :=
              if outcome = 0 then
                { s.sau.live with
                  lateSettledCount := min (s.sau.live.lateSettledCount + 1) 65535
                  lateSettledSum := min (s.sau.live.lateSettledSum + (d.amount + d.tip)) 999999999999 }
              else
                { s.sau.live with
                  lateFailedCount := min (s.sau.live.lateFailedCount + 1) 65535
                  lateFailedSum := min (s.sau.live.lateFailedSum + (d.amount + d.tip)) 999999999999 } }))) ∧
    (∀ n d, n ≤ 31 → s.stu.deferred[n]? = some d →
      exec (.deferredRead n) s = .next (answered 0x40 .ok
        (be 1 d.id ++ be 2 d.shift ++ be 2 d.hire ++ be 4 d.amount ++ be 4 d.tip ++ d.token ++ d.time.toBytes
          ++ flagByte d.aged ++ be 1 s.stu.deferred.length) s)) ∧
    (∀ n, n ≤ 31 → s.stu.deferred.length ≤ n → exec (.deferredRead n) s = .next (answered 0x40 .notFound [] s)) ∧
    (∀ n, 31 < n → exec (.deferredRead n) s = .next (answered 0x40 .badField [] s))

/-- An exchange sends the message in the slot, or POLL; an unanswered one is counted; at the fifth in a row the link is
LOST: the session ends, a hire that was being shown returns to DUE, one that awaits its verdict stays PAYING (R80, R81,
R92). That the row does nothing in a state in which its event cannot happen is the model's choice (log entry 3). That a
row naming such an outcome does nothing when the outcome does not come about is the model's choice (log entry 5). -/
def Obligations.TerminalExchangesAndLoss : Prop :=
  ∀ s : State, powered s = true →
    (s.tlc.exchange = none →
      exec .terminalExchange s = .next (s.setTlc
        { s.tlc with exchange := some ⟨terminalFrame s.tlc.slot, s.tlc.slot.isSome⟩ })) ∧
    (s.tlc.exchange ≠ none → ¬ (s.tlc.unanswered = 4 ∧ s.tlc.up = true) →
      exec .exchangeUnanswered s =
        .next (s.setTlc { s.tlc with unanswered := min (s.tlc.unanswered + 1) 255, exchange := none })) ∧
    (s.tlc.exchange ≠ none → s.tlc.unanswered = 4 → s.tlc.up = true →
      ∃ t, exec .terminalLinkLost s = .next t ∧ exec .exchangeUnanswered s = .next t ∧
        t.tlc.up = false ∧ t.tlc.unanswered = 5 ∧ t.tlc.session = none ∧ t.tlc.exchange = none ∧
        (s.tlc.session = none → t = (raise .terminalLost (s.setTlc
          { s.tlc with unanswered := 5, exchange := none, up := false }))) ∧
        (∀ v, s.tlc.session = some v →
          t.tlc.slot = none ∧
          (∀ h, (v.state = .inPhase .showing ∨ v.state = .pin .showing) → s.hire v.slot = some h → h.state = .paying →
            t.hire v.slot = some { h with state := .due } ∧ otherSlotsKept v.slot s t ∧
            t.clc.notices.get (hireKind v.slot) = (s.clc.notices.get (hireKind v.slot)).addReason 3) ∧
          (v.state = .inPhase .awaiting ∨ v.state = .pin .awaiting → t.fen = s.fen) ∧
          (v.state = .result → t.fen = s.fen ∧
            (∀ c a, s.tlc.slot = some (.result c a) → (c = .approved ∨ c = .approvedOffline) →
              t.clc.notices.terminal = (s.clc.notices.terminal.addReason 0).addReason 4) ∧
            ((∀ c a, s.tlc.slot = some (.result c a) → c ≠ .approved ∧ c ≠ .approvedOffline) →
              t.clc.notices.terminal = s.clc.notices.terminal.addReason 0))) ∧
        t.stu = s.stu ∧ t.sau = s.sau ∧ t.miu = s.miu ∧ t.vbu = s.vbu ∧ outsideKept s t)

/-- A good reply is read from its frame; taken, it clears the unanswered count, brings a LOST link UP and delivers the
message the exchange carried. A frame that is no good reply leaves the exchange unanswered (R80 to R82, R206, R207). -/
def Obligations.GoodRepliesAreTaken : Prop :=
  (∀ body : List Byte, body.length ≤ 259 → goodReplyBody (linkFrame 0xD2 0x81 body) = stateReply body) ∧
  (∀ (s : State) (x : Exchange) (frame : List Byte), powered s = true → s.tlc.exchange = some x →
    (goodReplyBody frame = none → exec (.goodReply frame) s = exec .exchangeUnanswered s) ∧
    (∀ st, goodReplyBody frame = some ⟨st, false, none⟩ →
      ∃ t, exec (.goodReply frame) s = .next t ∧ t.tlc.unanswered = 0 ∧ t.tlc.exchange = none ∧ t.tlc.up = true ∧
        t.tlc.lastState = some st ∧
        t.clc.notices.terminal =
          (if s.tlc.up then s.clc.notices.terminal else s.clc.notices.terminal.addReason 1) ∧
        t.tlc.slot = (if x.carriesSlot then none else s.tlc.slot) ∧
        (∀ m, s.tlc.slot = some m → x.carriesSlot = true → m.isFinal = true → t.tlc.session = none) ∧
        (∀ v p, s.tlc.session = some v → x.carriesSlot = false → v.state = .inPhase p → st = .pinEntry →
          t.tlc.session = some { v with state := .pin p } ∧ t.piu.pinMute = .muted ∧ t.piu.chime = none) ∧
        (∀ v p, s.tlc.session = some v → x.carriesSlot = false → v.state = .pin p → st ≠ .pinEntry →
          t.tlc.session = some { v with state := .inPhase p } ∧ t.piu = { s.piu with pinMute := .hold 2000 }) ∧
        t.fen = s.fen ∧ t.stu = s.stu ∧ t.sau = s.sau ∧ t.miu = s.miu ∧ t.vbu = s.vbu ∧ outsideKept s t))

/-- A TENDER in SHOWING, or a retap with another token in AWAITING, directly or through PIN, with the amount shown, a tip
within the maximum and room in the queue, makes a QUEUED entry at the tail with 120 s and supersedes the current one, and the
session waits for its verdict; a wrong one is REFUSED, a full queue BUSY, both with TENDER_REFUSED; a retap with the same
token changes nothing (R86, R87, R88, R93, R94). With no session, or in RESULT, whose final message stands in the slot until
an exchange has carried it, a TENDER only raises TENDER_REFUSED and a cancel does nothing; the exchange that carried the
message ends the session all the same (R82, R89, R90). A CANCELLED flag withdraws the current entry, ends the session and
returns the hire to DUE (R90). -/
def Obligations.TendersAndCancelsReachTheQueue : Prop :=
  (∀ (s : State) (x : Exchange) (frame : List Byte) (v : Session) (p : PayPhase) (st : TermState)
      (q : PayPhase → SessionState) (linked : Notice), powered s = true → s.tlc.exchange = some x → s.tlc.slot = none →
    s.tlc.session = some v → (v.state = .inPhase p ∨ v.state = .pin p) →
    q = (if st = .pinEntry then .pin else .inPhase) →
    linked = (if s.tlc.up then s.clc.notices.terminal else s.clc.notices.terminal.addReason 1) →
    (∀ r, goodReplyBody frame = some ⟨st, false, some r⟩ →
      (∀ t, exec (.goodReply frame) s = .next t →
        (v.state = q p → t.piu = s.piu) ∧
        (v.state = .pin p → st ≠ .pinEntry → t.piu = { s.piu with pinMute := .hold 2000 }) ∧
        (v.state = .inPhase p → st = .pinEntry → t.piu.pinMute = .muted ∧ t.piu.chime = none)) ∧
      (p = .awaiting → (∃ n e, v.current = some n ∧ authEntry s n = some e ∧ e.token = r.token) →
        ∃ t, exec (.goodReply frame) s = .next t ∧ t.stu = s.stu ∧ t.tlc.session = some { v with state := q p } ∧
          t.tlc.slot = none ∧ t.clc.notices.terminal = linked ∧ t.fen = s.fen ∧ t.sau = s.sau ∧ outsideKept s t) ∧
      (p = .showing ∨ (∀ n e, v.current = some n → authEntry s n = some e → e.token ≠ r.token) →
        (r.echo = v.amount → r.tip ≤ v.maxTip → s.stu.queue.length < 8 →
          ∃ t e, exec (.goodReply frame) s = .next t ∧
            t.stu.queue = (s.stu.queue.map fun y =>
              if p = .awaiting ∧ v.current = some y.id then { y with state := .superseded } else y) ++ [e] ∧
            e = { id := nextId (s.stu.queue.map (·.id)) s.stu.lastId, slot := v.slot, hire := v.hire, amount := v.amount
                  tip := r.tip, token := r.token, pinUsed := r.pinUsed, state := .queued, deadline := 120000 } ∧
            t.stu.lastId = e.id ∧ t.tlc.session = some { v with state := q .awaiting, current := some e.id } ∧
            (s.clc.notices.authWaiting.holds = authWaiting s → t.clc.notices.authWaiting.holds = true) ∧
            t.tlc.slot = none ∧ t.clc.notices.terminal = linked ∧ t.fen = s.fen ∧ t.sau = s.sau ∧ outsideKept s t) ∧
        (r.echo ≠ v.amount ∨ v.maxTip < r.tip →
          ∃ t, exec (.goodReply frame) s = .next t ∧ t.tlc.slot = some (.result .refused none) ∧
            t.tlc.session = some { v with state := q p } ∧ t.clc.notices.terminal = linked.addReason 3 ∧
            t.stu = s.stu ∧ t.fen = s.fen ∧ t.sau = s.sau ∧ outsideKept s t) ∧
        (r.echo = v.amount → r.tip ≤ v.maxTip → 8 ≤ s.stu.queue.length →
          ∃ t, exec (.goodReply frame) s = .next t ∧ t.tlc.slot = some (.result .busy none) ∧
            t.tlc.session = some { v with state := q p } ∧ t.clc.notices.terminal = linked.addReason 3 ∧
            t.stu = s.stu ∧ t.fen = s.fen ∧ t.sau = s.sau ∧ outsideKept s t))) ∧
    (∀ h, goodReplyBody frame = some ⟨st, true, none⟩ → s.hire v.slot = some h → h.state = .paying →
      ∃ t, exec (.goodReply frame) s = .next t ∧ t.tlc.session = none ∧ t.tlc.slot = none ∧
        t.stu.queue = s.stu.queue.map (fun e => if v.current = some e.id then { e with state := .withdrawn } else e) ∧
        t.hire v.slot = some { h with state := .due } ∧ otherSlotsKept v.slot s t ∧
        t.clc.notices.get (hireKind v.slot) = (s.clc.notices.get (hireKind v.slot)).addReason 3 ∧
        t.clc.notices.terminal = linked.addReason 2 ∧ (v.state = .inPhase p → st ≠ .pinEntry → t.piu = s.piu) ∧
        (v.state = .pin p ∨ st = .pinEntry → t.piu.pinMute = .hold 2000) ∧ t.sau = s.sau ∧ outsideKept s t)) ∧
  (∀ (s : State) (x : Exchange) (frame : List Byte) (st : TermState) (linked : Notice), powered s = true →
    s.tlc.exchange = some x → (∀ v, s.tlc.session = some v → v.state = .result) →
    (s.tlc.slot = none ∨ ∃ m, s.tlc.slot = some m ∧ m.isFinal = true) →
    linked = (if s.tlc.up then s.clc.notices.terminal else s.clc.notices.terminal.addReason 1) →
    (∀ r, goodReplyBody frame = some ⟨st, false, some r⟩ →
      ∃ t, exec (.goodReply frame) s = .next t ∧
        (x.carriesSlot = false ∨ s.tlc.slot = none →
          t.tlc = { s.tlc with unanswered := 0, exchange := none, up := true, lastState := some st }) ∧
        (x.carriesSlot = true → s.tlc.slot ≠ none → t.tlc = ⟨true, 0, some st, none, none, none⟩) ∧
        t.clc.notices.terminal = linked.addReason 3 ∧ t.stu = s.stu ∧ t.fen = s.fen ∧ t.sau = s.sau ∧ t.piu = s.piu ∧
        outsideKept s t) ∧
    (goodReplyBody frame = some ⟨st, true, none⟩ →
      ∃ t, exec (.goodReply frame) s = .next t ∧
        (x.carriesSlot = false ∨ s.tlc.slot = none →
          t.tlc = { s.tlc with unanswered := 0, exchange := none, up := true, lastState := some st }) ∧
        (x.carriesSlot = true → s.tlc.slot ≠ none → t.tlc = ⟨true, 0, some st, none, none, none⟩) ∧
        t.clc.notices.terminal = linked ∧ t.stu = s.stu ∧ t.fen = s.fen ∧ t.sau = s.sau ∧ t.piu = s.piu ∧
        outsideKept s t))

/-! ## Shift accounting -/

/-- The SAU takes a second report: the shift distance and one of its three classes grow by its metres, so that the shift
distance stays the sum of the classes; while the shift is CLOSED the report is discarded (R119, section 6.3). The list
of events issued and not yet taken, from which the command takes the oldest, is the model's choice (log entry 4). -/
def Obligations.ReportsKeepTheDistanceClasses : Prop :=
  ∀ (s : State) (r : SecondReport) (rest : List SecondReport), powered s = true → s.transit.sau = r :: rest →
    (s.sau.shift = .closed → exec .sauSecondReport s = .next (s.setTransit { s.transit with sau := rest })) ∧
    (s.sau.shift ≠ .closed → ∀ v, s.sau.live = v → v.shiftDistance + r.metres ≤ 281474976710655 →
      v.shiftDistance = v.hiredDistance + v.vacantDistance + v.rejectedDistance →
      ∃ t w, exec .sauSecondReport s = .next t ∧ t.sau = { s.sau with live := w } ∧
        w = { v with
          shiftDistance := v.shiftDistance + r.metres
          rejectedDistance := if r.mark = .normal then v.rejectedDistance else v.rejectedDistance + r.metres
          hiredDistance :=
            if r.mark = .normal ∧ 0 < runningCount s.fen.slots then v.hiredDistance + r.metres else v.hiredDistance
          vacantDistance :=
            if r.mark = .normal ∧ runningCount s.fen.slots = 0 then v.vacantDistance + r.metres
            else v.vacantDistance } ∧
        w.shiftDistance = w.hiredDistance + w.vacantDistance + w.rejectedDistance ∧
        t.transit = { s.transit with sau := rest } ∧ t.clc = s.clc ∧ t.fen = s.fen ∧ t.miu = s.miu ∧ outsideKept s t)

/-- SHIFT_OPEN with its checks passed heads a new record, reserves a summary slot and hands the blocks their limits; the
checks refuse it in the order of Table 6-2a (R114, R115, R34, R75, R107). The events issued and not yet taken are a list
in State, the model's choice (log entry 4). -/
def Obligations.ShiftsOpen : Prop :=
  (∀ (s : State) (d n sh l f c : Nat), listening s = true →
    (d < 1 ∨ 99999999 < d ∨ n < 1 ∨ 6 < n ∨ flagOf sh = none ∨ l < 1 ∨ 255 < l ∨ 99999999 < f ∨ 99999999 < c) →
    exec (.shiftOpen d n sh l f c) s = .next (answered 0x48 .badField [] s)) ∧
  ∀ (s : State) (d n sh l f c : Nat) (b : Bool), listening s = true → 1 ≤ d → d ≤ 99999999 → 1 ≤ n → n ≤ 6 →
    flagOf sh = some b → 1 ≤ l → l ≤ 255 → f ≤ 99999999 → c ≤ 99999999 →
    (s.sau.shift ≠ .closed → exec (.shiftOpen d n sh l f c) s = .next (answered 0x48 .notAllowed [] s)) ∧
    (s.sau.shift = .closed → (s.tfs.valid = false ∨ s.miu.kValid = false ∨ s.miu.calActive = true) →
      exec (.shiftOpen d n sh l f c) s = .next (answered 0x48 .notAllowed [] s)) ∧
    (s.sau.shift = .closed → s.tfs.valid = true → s.miu.kValid = true → s.miu.calActive = false →
      (s.miu.sealOpen = true → exec (.shiftOpen d n sh l f c) s = .next (answered 0x48 .sealed [] s)) ∧
      (s.miu.sealOpen = false → s.sau.slot0 ≠ .free → s.sau.slot1 ≠ .free →
        exec (.shiftOpen d n sh l f c) s = .next (answered 0x48 .full [] s)) ∧
      (s.miu.sealOpen = false → (s.sau.slot0 = .free ∨ s.sau.slot1 = .free) →
        ∃ t, exec (.shiftOpen d n sh l f c) s = .next t ∧
          t.clc.answer = some (.reply 0xC8 .ok (be 2 t.sau.number ++ be 1 (if s.sau.slot0 = .free then 0 else 1))) ∧
          t.sau.shift = .opened ∧ t.sau.number = (if 65535 ≤ s.sau.number then 1 else s.sau.number + 1) ∧
          t.sau.live = { ShiftRecord.zero with
            number := t.sau.number, driver := d, openTime := s.cku.now, openOdometer := s.miu.odometer, seats := n
            sharing := b, lagLimit := l, floor := f, ceiling := c } ∧
          t.sau.slot0 = (if s.sau.slot0 = .free then .reserved else s.sau.slot0) ∧
          t.sau.slot1 = (if s.sau.slot0 = .free then s.sau.slot1 else .reserved) ∧
          t.fen = { s.fen with seats := n, sharing := b, counter := 0 } ∧
          t.vbu.lagLimit = l ∧ t.vbu.lagCount = l ∧ t.vbu.get t.vbu.console = none ∧
          (s.vbu.lagCount = 0 → t.clc.notices.displayStale.holds = false) ∧
          t.stu = { s.stu with floor := f, ceiling := c } ∧ t.sgu.desired = desiredImage t ∧
          t.miu = s.miu ∧ t.tfs = s.tfs ∧ t.tlc = s.tlc ∧ t.transit = s.transit ∧ t.piu = s.piu ∧ outsideKept s t))

/-- SHIFT_BREAK and SHIFT_RESUME change the shift state and the sign (R116); SHIFT_CLOSE, with no hire, session or
authorization entry, fills the reserved slot with the summary (R117, R118). -/
def Obligations.ShiftsBreakResumeAndClose : Prop :=
  ∀ s : State, listening s = true →
    (s.sau.shift = .opened → occupied s = false →
      ∃ t, exec .shiftBreak s = .next t ∧ t.clc.answer = some (.reply 0xC9 .ok []) ∧
        t.sau = { s.sau with shift := .onBreak } ∧ t.sgu.desired.availability = .avail .off ∧
        t.fen = s.fen ∧ t.miu = s.miu ∧ t.tfs = s.tfs ∧ t.stu = s.stu ∧ outsideKept s t) ∧
    ((s.sau.shift ≠ .opened ∨ occupied s = true) → exec .shiftBreak s = .next (answered 0x49 .notAllowed [] s)) ∧
    (s.sau.shift = .onBreak →
      ∃ t, exec .shiftResume s = .next t ∧ t.clc.answer = some (.reply 0xCA .ok []) ∧
        t.sau = { s.sau with shift := .opened } ∧
        (occupied s = false → t.sgu.desired.availability = .avail .free) ∧
        t.fen = s.fen ∧ t.miu = s.miu ∧ t.tfs = s.tfs ∧ t.stu = s.stu ∧ outsideKept s t) ∧
    (s.sau.shift ≠ .onBreak → exec .shiftResume s = .next (answered 0x4A .notAllowed [] s)) ∧
    (s.sau.shift ≠ .closed → occupied s = false → s.tlc.session = none → s.stu.queue = [] →
      ∃ t, exec .shiftClose s = .next t ∧
        t.clc.answer =
          some (.reply 0xCB .ok (be 2 s.sau.number ++ be 1 (if s.sau.slot0 = .reserved then 0 else 1))) ∧
        t.sau.shift = .closed ∧ t.sau.number = s.sau.number ∧
        t.sau.live = { s.sau.live with
          closeTime := some s.cku.now, closeOdometer := some s.miu.odometer
          outstandingCount := s.stu.deferred.length
          outstandingSum := min 999999999999 (s.stu.deferred.map fun d => d.amount + d.tip).sum } ∧
        (∃ order, (if s.sau.slot0 = .reserved then t.sau.slot0 else t.sau.slot1) =
          .held ⟨t.sau.live, s.miu.sealCount, s.miu.calCounter, s.tfs.version⟩ false order) ∧
        t.clc.notices.shift = s.clc.notices.shift.addReason 0 ∧ t.sgu.desired.availability = .avail .off ∧
        t.fen = s.fen ∧ t.miu = s.miu ∧ t.tfs = s.tfs ∧ t.stu = s.stu ∧ t.vbu = s.vbu ∧ outsideKept s t) ∧
    ((s.sau.shift = .closed ∨ occupied s = true ∨ s.tlc.session ≠ none ∨ s.stu.queue ≠ []) →
      exec .shiftClose s = .next (answered 0x4B .notAllowed [] s))

/-- A HELD summary is fetched and marked, and released only once fetched; the oldest of two is the one of the earlier
close (R126). TOTALS_READ carries the live record without its close fields (R127). That the close order of a slot
HELD alone is 0 is the model's choice (log entry 15). -/
def Obligations.SummariesAreFetchedAndReleased : Prop :=
  ∀ s : State, listening s = true →
    (∀ n x fetched order, n ≤ 1 → summarySlot s n = .held x fetched order →
      exec (.summaryFetch n) s =
        .next (answered 0x4C .ok (be 1 n ++ x.toBytes) (s.setSummarySlot n (.held x true order))) ∧
      (fetched = false → exec (.summaryRelease n) s = .next (answered 0x4D .notAllowed [] s)) ∧
      (fetched = true →
        ∃ t, exec (.summaryRelease n) s = .next t ∧ t.clc.answer = some (.reply 0xCD .ok []) ∧
          summarySlot t n = .free ∧
          (∀ y g m, summarySlot s (1 - n) = .held y g m → summarySlot t (1 - n) = .held y g 0) ∧
          (summarySlot s (1 - n) = .reserved → summarySlot t (1 - n) = .reserved) ∧
          t.sau.live = s.sau.live ∧ t.sau.shift = s.sau.shift ∧ t.fen = s.fen ∧ t.miu = s.miu ∧ outsideKept s t)) ∧
    (∀ n, n ≤ 1 → (summarySlot s n = .free ∨ summarySlot s n = .reserved) →
      exec (.summaryFetch n) s = .next (answered 0x4C .notFound [] s) ∧
      exec (.summaryRelease n) s = .next (answered 0x4D .notAllowed [] s)) ∧
    (∀ n, 1 < n → n ≠ 0xFF → exec (.summaryFetch n) s = .next (answered 0x4C .badField [] s)) ∧
    (∀ n, 1 < n → exec (.summaryRelease n) s = .next (answered 0x4D .badField [] s)) ∧
    (∀ x f m, s.sau.slot0 = .held x f m → (s.sau.slot1 = .free ∨ s.sau.slot1 = .reserved) →
      exec (.summaryFetch 0xFF) s = exec (.summaryFetch 0) s) ∧
    ((s.sau.slot0 = .free ∨ s.sau.slot0 = .reserved) → exec (.summaryFetch 0xFF) s = exec (.summaryFetch 1) s) ∧
    (∀ x f m y g n, s.sau.slot0 = .held x f m → s.sau.slot1 = .held y g n →
      exec (.summaryFetch 0xFF) s = exec (.summaryFetch (if m ≤ n then 0 else 1)) s) ∧
    (s.sau.shift ≠ .closed →
      exec .totalsRead s = .next (answered 0x4E .ok
        (be 1 s.sau.shift.code ++ { s.sau.live with closeTime := none, closeOdometer := none }.toBytes false) s)) ∧
    (s.sau.shift = .closed → exec .totalsRead s = .next (answered 0x4E .notAllowed [] s))

/-! ## Roof sign -/

/-- The requests of the sign: the role table, the driver's text, the alert latch, hold and release, the lamp test and
the read (R131, R134, R136, R147, R148, R151, R152, R153). What SIGN_HOLD answers while a lost transfer waits or in a bus
recovery, and that a lamp transfer begins in the event of its request, are the model's readings (log entries 18 and 24). The
layout and codes of SIGN_READ are those of log entries 13 and 36. -/
def Obligations.SignRequestsAreServed : Prop :=
  ∀ s : State, listening s = true →
    (∀ a b c d a' b' c' d', s.rbc.controller = .held → addressOf a = some a' → addressOf b = some b' →
      addressOf c = some c' → addressOf d = some d' →
      (addressesDistinct [a', b', c', d'] = true →
        exec (.signConfig a b c d) s = .next (answered 0x58 .ok []
          ((s.setSgu { s.sgu with roles := ⟨a', b', c', d'⟩ }).setRbc
            { s.rbc with
              modules := ⟨a'.map fun _ => .unknown, b'.map fun _ => .unknown, c'.map fun _ => .unknown,
                d'.map fun _ => .unknown⟩
              acked := ⟨none, none, none, none⟩, probe := ⟨none, none, none, none⟩ }))) ∧
      (addressesDistinct [a', b', c', d'] = false →
        exec (.signConfig a b c d) s = .next (answered 0x58 .badField [] s))) ∧
    (∀ a b c d, s.rbc.controller ≠ .held → exec (.signConfig a b c d) s = .next (answered 0x58 .notAllowed [] s)) ∧
    (∀ a b c d, s.rbc.controller = .held → (∃ n ∈ [a, b, c, d], n = 0 ∨ 63 < n ∧ n ≠ 0xFF) →
      exec (.signConfig a b c d) s = .next (answered 0x58 .badField [] s)) ∧
    (∀ text, (24 < text.length ∨ ∃ x ∈ text, x.toNat < 0x20 ∨ 0x7E < x.toNat) →
      exec (.signText text) s = .next (answered 0x59 .badField [] s)) ∧
    (∀ text, text.length ≤ 24 → text.all printable = true →
      ∃ t, exec (.signText text) s = .next t ∧ t.clc.answer = some (.reply 0xD9 .ok []) ∧ t.sgu.text = text ∧
        t.sgu.desired = desiredImage t ∧ (text ≠ [] → t.sgu.desired.text = .text text) ∧ t.rbc = s.rbc ∧ t.fen = s.fen ∧
        t.sau = s.sau) ∧
    (s.rbc.alrmActive = true → exec .alertClear s = .next (answered 0x5A .notAllowed [] s)) ∧
    (s.rbc.alrmActive = false → s.sgu.latch = false → exec .alertClear s = .next (answered 0x5A .ok [] s)) ∧
    (s.rbc.alrmActive = false → s.sgu.latch = true →
      ∃ t, exec .alertClear s = .next t ∧ t.clc.answer = some (.reply 0xDA .ok []) ∧ t.sgu.latch = false ∧
        t.sgu.desired.alert = .alert false ∧
        t.clc.notices = { s.clc.notices with alert := { s.clc.notices.alert with holds := false } } ∧ t.rbc = s.rbc ∧
        t.fen = s.fen ∧ t.sau = s.sau) ∧
    (s.rbc.controller = .running → driving s.rbc = true →
      exec .signHold s = .next (answered 0x5B .accepted [] (s.setRbc { s.rbc with controller := .holding }))) ∧
    (s.rbc.controller = .running → driving s.rbc = false →
      ∃ t, exec .signHold s = .next t ∧ t.clc.answer = some (.reply 0xDB .ok []) ∧ t.rbc.controller = .held ∧
        t.sgu = { s.sgu with list := [] } ∧ t.rbc.acked = ⟨none, none, none, none⟩ ∧ t.rbc.arbLoss = 0 ∧
        t.rbc.flight = none ∧ (∀ r, t.rbc.modules.get r = (s.sgu.roles.get r).map fun _ => .unknown)) ∧
    (s.rbc.controller = .lampTest → s.rbc.holdPending = false →
      exec .signHold s = .next (answered 0x5B .accepted [] (s.setRbc { s.rbc with holdPending := true }))) ∧
    ((s.rbc.controller = .held ∨ s.rbc.controller = .holding ∨
        s.rbc.controller = .lampTest ∧ s.rbc.holdPending = true) →
      exec .signHold s = .next (answered 0x5B .notAllowed [] s)) ∧
    (s.rbc.controller = .held → s.sgu.list = [] →
      ∃ t, exec .signRelease s = .next t ∧ t.clc.answer = some (.reply 0xDC .ok []) ∧
        t.rbc = { s.rbc with controller := .running, busBusy := true, idleOnly := true } ∧
        t.sgu.list.map (fun e => (e.role, e.content, e.tries)) =
          ([Role.alert, .availability, .seats, .text].filter fun r => (s.sgu.roles.get r).isSome).map
            (fun r => (r, s.sgu.desired.get r, 0)) ∧
        t.sgu.desired = s.sgu.desired ∧ t.fen = s.fen ∧ t.sau = s.sau) ∧
    (s.rbc.controller ≠ .held → exec .signRelease s = .next (answered 0x5C .notAllowed [] s)) ∧
    (s.rbc.controller = .running →
      ∃ t, exec .lampTest s = .next t ∧ t.clc.answer = some (.reply 0xDD .accepted []) ∧
        t.rbc.controller = .lampTest ∧ t.rbc.phase = some .allOn ∧ t.rbc.lampTries = 0 ∧ t.sgu = s.sgu ∧
        (s.rbc.flight = none → s.rbc.busBusy = false → s.rbc.recovering = false →
          t.rbc.flight = some .lampAllOn ∧ t.rbc.busBusy = true) ∧
        (s.rbc.flight ≠ none ∨ s.rbc.busBusy = true → t.rbc.flight = s.rbc.flight ∧ t.rbc.busBusy = s.rbc.busBusy)) ∧
    (s.rbc.controller = .lampTest → exec .lampTest s = .next (answered 0x5D .busy [] s)) ∧
    ((s.rbc.controller = .held ∨ s.rbc.controller = .holding) →
      exec .lampTest s = .next (answered 0x5D .notAllowed [] s)) ∧
    exec .signRead s = .next (answered 0x5E .ok (serveSignRead s).payload s)

/-- An activation of the alarm raises the latch, begins ALERT and shows it on the sign; while the latch is set it changes
nothing more (R135). In a lamp test the rise cuts ALL_ON, at once with no transfer in flight and otherwise when the transfer
has ended, and LIT at once, and leaves RESTORE as it is (R150). That it goes to RESTORE at once between two tries, and that a
LAMP_ALL_ON waiting for its restart after a loss counts as in flight, are the model's choices (log entry 19). A foreign START
makes the bus BUSY, and a STOP or 5 ms of idle lines make it FREE, only the latter after a start or on leaving HELD (R139).
That the row of the alarm also gives the plain level of ALRM, and follows it without supply too, is the model's choice (log
entry 12); that BUS_FREE does nothing while the RBC drives the bus is another (log entry 3); that a lamp transfer begins in
the event is its reading (log entry 24). -/
def Obligations.AlarmAndBusEvents : Prop :=
  (∀ (s : State) (a : AlarmInput), powered s = false →
    exec (.alarmActivation a) s = .next (s.setRbc { s.rbc with alrmActive := decide (a ≠ .inactive) })) ∧
  ∀ s : State, powered s = true →
    exec (.alarmActivation .inactive) s = .next (s.setRbc { s.rbc with alrmActive := false }) ∧
    exec (.alarmActivation .active) s = .next (s.setRbc { s.rbc with alrmActive := true }) ∧
    (s.sgu.latch = true → exec (.alarmActivation .heldActive) s = .next (s.setRbc { s.rbc with alrmActive := true })) ∧
    (s.sgu.latch = false →
      ∃ t, exec (.alarmActivation .heldActive) s = .next t ∧ t.sgu.latch = true ∧ t.sgu.desired.alert = .alert true ∧
        t.clc.notices.alert.holds = true ∧
        (s.clc.notices.alert.enabled = true → t.clc.notices.alert.raised = true) ∧
        (s.rbc.controller ≠ .lampTest → t.rbc = { s.rbc with alrmActive := true }) ∧
        (s.rbc.controller = .lampTest → s.rbc.phase = some .lit → t.rbc.phase = some .restore ∧ t.rbc.lampCut = true) ∧
        (s.rbc.controller = .lampTest → s.rbc.phase = some .restore → t.rbc = { s.rbc with alrmActive := true }) ∧
        (s.rbc.controller = .lampTest → s.rbc.phase = some .allOn → s.rbc.flight ≠ none →
          t.rbc = { s.rbc with alrmActive := true, lampCut := true }) ∧
        (s.rbc.controller = .lampTest → s.rbc.flight = none →
          s.rbc.phase = some .allOn ∨ s.rbc.phase = some .lit →
          (s.rbc.busBusy = false → s.rbc.recovering = false →
            t.rbc = { s.rbc with
              alrmActive := true, lampCut := true, phase := some .restore, lampTries := 0, lampRetry := none
              litLeft := 0, flight := some .lampNormal, sending := [0, 3, 0, 0xFD], busBusy := true, arbWait := false }) ∧
          (s.rbc.busBusy = true ∨ s.rbc.recovering = true →
            t.rbc = { s.rbc with
              alrmActive := true, lampCut := true, phase := some .restore, lampTries := 0, lampRetry := none
              litLeft := 0 })) ∧
        t.fen = s.fen ∧ t.sau = s.sau ∧ t.miu = s.miu ∧ t.cku = s.cku) ∧
    exec .foreignStart s = .next (s.setRbc { s.rbc with busBusy := true }) ∧
    (∀ c, driving s.rbc = true → exec (.busFree c) s = .next s) ∧
    (driving s.rbc = false → s.rbc.controller ≠ .lampTest →
      exec (.busFree .linesHigh) s =
        .next (s.setRbc { s.rbc with busBusy := false, idleOnly := false, recovering := false }) ∧
      (s.rbc.idleOnly = false → s.rbc.recovering = false →
        exec (.busFree .stopSeen) s = .next (s.setRbc { s.rbc with busBusy := false })) ∧
      ((s.rbc.idleOnly = true ∨ s.rbc.recovering = true) → exec (.busFree .stopSeen) s = .next s)) ∧
    (driving s.rbc = false → s.rbc.controller = .lampTest → s.rbc.flight = none → s.rbc.lampRetry = none →
      s.rbc.phase = some .allOn →
      ∃ t, exec (.busFree .linesHigh) s = .next t ∧ t.rbc.flight = some .lampAllOn ∧
        t.rbc.sending = [0, 2, 0, 0xFE] ∧ t.rbc.busBusy = true ∧ t.sgu = s.sgu ∧ t.clc = s.clc)

/-- The first eligible entry of the update list is sent; success acknowledges its content and drops the entry, or keeps one
whose content changed meanwhile; a failed try goes to the tail with a hold-off, the third makes the module FAULTY, and a
failed probe waits 5 s (R139 to R144). In HOLDING the end of the transfer has its notice and brings HELD (R151); in a lamp
test it has its effects, and then LAMP_ALL_ON is sent, or LAMP_NORMAL when the alarm has cut the test (R148, R150). That the
lamp transfer begins in that event is the model's reading (log entry 24). That a row naming such an outcome does nothing when
the outcome does not come about is the model's choice (log entry 5), and so is that an expiry acts whatever time is left (log
entry 2). That a probe which succeeds with changed content clears the probe flag is its reading (log entry 20). -/
def Obligations.ContentTransfersSucceedAndFail : Prop :=
  (∀ (s : State) (r : Role) (c : Content) (e : UpdateEntry), powered s = true → s.rbc.controller = .holding →
    s.rbc.flight = some (.content r c) → s.rbc.arbWait = false → entryOf s.sgu.list r = some e →
    (∃ t, exec .transferSuccess s = .next t ∧ heldRbc s t ∧ t.sgu = { s.sgu with list := [] } ∧
      t.clc.notices.sign =
        (if s.rbc.modules.get r = some .faulty then s.clc.notices.sign.addReason 1 else s.clc.notices.sign)) ∧
    (∃ t, exec .transferFailed s = .next t ∧ heldRbc s t ∧ t.sgu = { s.sgu with list := [] } ∧
      t.clc.notices.sign =
        (if e.probe = false ∧ 2 ≤ e.tries then s.clc.notices.sign.addReason 0 else s.clc.notices.sign))) ∧
  (∀ (s : State) (r : Role) (c : Content) (e : UpdateEntry) (lamp : Rbc → Rbc), powered s = true →
    s.rbc.controller = .lampTest → s.rbc.phase = some .allOn → s.rbc.flight = some (.content r c) →
    s.rbc.arbWait = false → s.rbc.recovering = false → entryOf s.sgu.list r = some e →
    s.rbc.lampRetry = none →
    (lamp = fun b =>
      if s.rbc.lampCut then
        { b with
          arbLoss := 0, flight := some .lampNormal, sending := [0, 3, 0, 0xFD], busBusy := true, phase := some .restore
          lampTries := 0, litLeft := 0 }
      else { b with arbLoss := 0, flight := some .lampAllOn, sending := [0, 2, 0, 0xFE], busBusy := true }) →
    (∃ t, exec .transferSuccess s = .next t ∧
      t.rbc = lamp { s.rbc with
        acked := s.rbc.acked.set r (some c), modules := s.rbc.modules.set r (some .ok), probe := s.rbc.probe.set r none } ∧
      t.clc.notices.sign =
        (if s.rbc.modules.get r = some .faulty then s.clc.notices.sign.addReason 1 else s.clc.notices.sign) ∧
      (e.content = c → t.sgu = { s.sgu with list := s.sgu.list.filter fun x => x.role != r })) ∧
    (e.probe = true →
      ∃ t, exec .transferFailed s = .next t ∧ t.rbc = lamp { s.rbc with probe := s.rbc.probe.set r (some 5000) } ∧
        t.sgu = { s.sgu with list := s.sgu.list.filter fun x => x.role != r } ∧ t.clc = s.clc) ∧
    (e.probe = false → e.tries + 1 < 3 →
      ∃ t, exec .transferFailed s = .next t ∧ t.rbc = lamp s.rbc ∧ t.clc = s.clc ∧
        t.sgu = { s.sgu with
          list := (s.sgu.list.filter fun x => x.role != r)
            ++ [{ e with tries := e.tries + 1, holdOff := some 50, inFlight := false }] }) ∧
    (e.probe = false → 2 ≤ e.tries →
      ∃ t, exec .transferFailed s = .next t ∧
        t.rbc = lamp { s.rbc with
          modules := s.rbc.modules.set r (some .faulty), acked := s.rbc.acked.set r none
          probe := s.rbc.probe.set r (some 5000) } ∧
        t.sgu = { s.sgu with list := s.sgu.list.filter fun x => x.role != r } ∧
        t.clc.notices.sign = s.clc.notices.sign.addReason 0)) ∧
  ∀ s : State, powered s = true → s.rbc.controller = .running →
    (∀ e, s.rbc.flight = none → s.rbc.busBusy = false → s.rbc.recovering = false →
      s.sgu.list.find? UpdateEntry.eligible = some e →
      exec .transferBegin s = .next
        ((s.setSgu { s.sgu with
            list := s.sgu.list.map fun x => if x.role = e.role then { x with inFlight := true } else x }).setRbc
          { s.rbc with
            flight := some (.content e.role e.content)
            sending := busTransfer ((s.sgu.roles.get e.role).getD 0) 1 e.content.busBytes
            busBusy := true, arbWait := false })) ∧
    (s.sgu.list.find? UpdateEntry.eligible = none → exec .transferBegin s = .next s) ∧
    (∀ r c e, s.rbc.flight = some (.content r c) → s.rbc.arbWait = false → entryOf s.sgu.list r = some e →
      (∃ t, exec .transferSuccess s = .next t ∧ t.rbc.acked.get r = some c ∧ t.rbc.modules.get r = some .ok ∧
        t.rbc.probe.get r = none ∧ t.rbc.flight = none ∧ t.rbc.busBusy = false ∧ t.rbc.arbLoss = 0 ∧
        t.clc.notices.sign =
          (if s.rbc.modules.get r = some .faulty then s.clc.notices.sign.addReason 1 else s.clc.notices.sign) ∧
        (e.content = c → t.sgu.list = s.sgu.list.filter fun x => x.role != r) ∧
        (e.content ≠ c →
          entryOf t.sgu.list r = some { e with tries := 0, probe := false, inFlight := false }) ∧
        (∀ q, q ≠ r → t.rbc.acked.get q = s.rbc.acked.get q ∧ entryOf t.sgu.list q = entryOf s.sgu.list q) ∧
        t.fen = s.fen ∧ t.sau = s.sau ∧ t.cku = s.cku) ∧
      (e.probe = true →
        ∃ t, exec .transferFailed s = .next t ∧ t.sgu.list = (s.sgu.list.filter fun x => x.role != r) ∧
          t.rbc.probe.get r = some 5000 ∧ t.rbc.modules = s.rbc.modules ∧ t.rbc.flight = none ∧ t.clc = s.clc) ∧
      (e.probe = false → e.tries + 1 < 3 →
        ∃ t, exec .transferFailed s = .next t ∧
          t.sgu.list = (s.sgu.list.filter fun x => x.role != r)
            ++ [{ e with tries := e.tries + 1, holdOff := some 50, inFlight := false }] ∧
          t.rbc.modules = s.rbc.modules ∧ t.rbc.flight = none ∧ t.rbc.busBusy = false ∧ t.clc = s.clc) ∧
      (e.probe = false → 2 ≤ e.tries →
        ∃ t, exec .moduleFault s = .next t ∧ exec .transferFailed s = .next t ∧
          t.sgu.list = (s.sgu.list.filter fun x => x.role != r) ∧ t.rbc.modules.get r = some .faulty ∧
          t.rbc.acked.get r = none ∧ t.rbc.probe.get r = some 5000 ∧ t.rbc.flight = none ∧
          t.clc.notices.sign = s.clc.notices.sign.addReason 0)) ∧
    (∀ n r, roleOf n = some r →
      exec (.holdOffExpiry n) s = .next (s.setSgu { s.sgu with
        list := s.sgu.list.map fun e => if e.role = r then { e with holdOff := none } else e })) ∧
    (∀ n r, roleOf n = some r → s.rbc.modules.get r = some .faulty → s.rbc.probe.get r ≠ none →
      ∃ t, exec (.probeTimerExpiry n) s = .next t ∧
        (entryOf s.sgu.list r = none →
          entryOf t.sgu.list r = some ⟨r, s.sgu.desired.get r, 0, true, none, false⟩) ∧
        (entryOf s.sgu.list r ≠ none → t.sgu = s.sgu) ∧ t.rbc.modules = s.rbc.modules ∧ t.clc = s.clc)

/-- A lost arbitration is counted and leaves the bus to the winner, the eighth in a row is reported, and the transfer
begins again with its entry's content; a stall is a failed try, and the recovery frees the bus (R145 to R147). That a
row naming such an outcome does nothing when the outcome does not come about is the model's choice (log entry 5). -/
def Obligations.ArbitrationAndStalls : Prop :=
  ∀ s : State, powered s = true →
    (driving s.rbc = true → s.rbc.controller ≠ .holding →
      ∃ t, exec .arbitrationLost s = .next t ∧
        t.rbc = { s.rbc with arbLoss := min (s.rbc.arbLoss + 1) 255, arbWait := true, busBusy := true } ∧
        t.clc.notices.sign =
          (if s.rbc.arbLoss = 7 then s.clc.notices.sign.addReason 2 else s.clc.notices.sign) ∧
        (s.rbc.arbLoss = 7 → exec .arbLimit s = .next t) ∧ t.sgu = s.sgu ∧ t.fen = s.fen ∧ t.sau = s.sau) ∧
    (driving s.rbc = true → s.rbc.controller = .holding →
      ∃ t, exec .arbitrationLost s = .next t ∧ t.rbc.controller = .held ∧ t.rbc.flight = none ∧ t.sgu.list = []) ∧
    (∀ r c e, s.rbc.arbWait = true → s.rbc.busBusy = false → s.rbc.flight = some (.content r c) →
      entryOf s.sgu.list r = some e →
      exec .arbitrationRestart s = .next (s.setRbc
        { s.rbc with
          flight := some (.content r e.content)
          sending := busTransfer ((s.sgu.roles.get r).getD 0) 1 e.content.busBytes, busBusy := true
          arbWait := false })) ∧
    (s.rbc.arbWait = true → s.rbc.busBusy = false → s.rbc.flight = some .lampAllOn →
      exec .arbitrationRestart s = .next (s.setRbc { s.rbc with
        sending := [0, 2, 0, 0xFE], busBusy := true, arbWait := false })) ∧
    (∀ r c e, s.rbc.controller = .running → s.rbc.flight = some (.content r c) → s.rbc.arbWait = false →
      entryOf s.sgu.list r = some e → e.probe = false → e.tries + 1 < 3 →
      ∃ t, exec .clockStall s = .next t ∧ t.rbc.recovering = true ∧ t.rbc.busBusy = true ∧ t.rbc.flight = none ∧
        t.clc.notices.sign = s.clc.notices.sign.addReason 3 ∧
        t.sgu.list = (s.sgu.list.filter fun x => x.role != r)
          ++ [{ e with tries := e.tries + 1, holdOff := some 50, inFlight := false }]) ∧
    (s.rbc.recovering = true → s.rbc.controller ≠ .lampTest →
      exec .busRecovery s = .next (s.setRbc { s.rbc with recovering := false, busBusy := false }))

/-- The lamp test: ALL_ON is followed by 3 s of LIT, LIT by RESTORE, and RESTORE by RUNNING with a full refresh and
LAMP_TEST_DONE, or by HELD when a hold is pending; a failed lamp transfer is tried again 50 ms later, and the third failure
is its end; a test that the alarm has cut goes from ALL_ON to RESTORE at the end or the first failure of LAMP_ALL_ON and
raises LAMP_TEST_CUT (R148 to R151). That a failed try after the cut is the last is the model's choice (log entry 19). That
a lamp transfer begins in the event that ends its wait is the model's reading (log entry 24), and that such a row acts
whatever time is left its choice (log entry 2). -/
def Obligations.LampTestPhases : Prop :=
  ∀ s : State, powered s = true → s.rbc.controller = .lampTest → s.rbc.arbWait = false →
    (s.rbc.flight = some .lampAllOn → s.rbc.phase = some .allOn → s.rbc.lampCut = false →
      exec .lampTransferEnd s = .next (s.setRbc
        { s.rbc with
          flight := none, sending := [], busBusy := false, arbLoss := 0, phase := some .lit, lampTries := 0
          lampRetry := none, litLeft := 3000 })) ∧
    (s.rbc.phase = some .lit → s.rbc.flight = none → s.rbc.busBusy = false → s.rbc.recovering = false →
      exec .lampLitEnd s = .next (s.setRbc
        { s.rbc with
          flight := some .lampNormal, sending := [0, 3, 0, 0xFD], busBusy := true, phase := some .restore, lampTries := 0
          lampRetry := none, litLeft := 0 })) ∧
    (s.rbc.flight = some .lampAllOn → s.rbc.phase = some .allOn → s.rbc.lampCut = true → s.rbc.recovering = false →
      ∀ c, c = Instr.lampTransferEnd ∨ c = Instr.transferFailed →
      exec c s = .next (s.setRbc
        { s.rbc with
          flight := some .lampNormal, sending := [0, 3, 0, 0xFD], busBusy := true, arbLoss := 0, phase := some .restore
          lampTries := 0, lampRetry := none, litLeft := 0 })) ∧
    (s.rbc.flight = some .lampAllOn → s.rbc.phase = some .allOn → s.rbc.lampCut = false → 2 ≤ s.rbc.lampTries →
      exec .transferFailed s = .next (s.setRbc
        { s.rbc with
          flight := none, sending := [], busBusy := false, arbLoss := 0, phase := some .lit, lampTries := 0
          lampRetry := none, litLeft := 3000 })) ∧
    (s.rbc.flight = some .lampNormal → s.rbc.phase = some .restore → 2 ≤ s.rbc.lampTries →
      exec .transferFailed s = exec .lampTransferEnd s) ∧
    (s.rbc.flight = some .lampNormal → s.rbc.phase = some .restore → s.rbc.lampTries + 1 < 3 →
      exec .transferFailed s = .next (s.setRbc
        { s.rbc with
          flight := none, sending := [], busBusy := false, arbLoss := 0, lampTries := s.rbc.lampTries + 1
          lampRetry := some 50 })) ∧
    (s.rbc.lampRetry ≠ none → s.rbc.flight = none → s.rbc.busBusy = false → s.rbc.recovering = false →
      s.rbc.phase = some .restore →
      exec .lampTransferRetry s = .next (s.setRbc
        { s.rbc with flight := some .lampNormal, sending := [0, 3, 0, 0xFD], busBusy := true, lampRetry := none })) ∧
    (s.rbc.flight = some .lampNormal → s.rbc.phase = some .restore → s.rbc.holdPending = false →
      ∃ t, exec .lampTransferEnd s = .next t ∧ t.rbc.controller = .running ∧ t.rbc.phase = none ∧
        t.rbc.flight = none ∧ t.rbc.busBusy = false ∧
        t.clc.notices.sign = s.clc.notices.sign.addReason (if s.rbc.lampCut then 5 else 4) ∧
        (∀ r, s.sgu.roles.get r ≠ none → ∃ e, entryOf t.sgu.list r = some e ∧ e.content = s.sgu.desired.get r
          ∧ e.tries = 0) ∧
        t.sgu.desired = s.sgu.desired) ∧
    (s.rbc.flight = some .lampNormal → s.rbc.phase = some .restore → s.rbc.holdPending = true →
      ∃ t, exec .lampTransferEnd s = .next t ∧ t.rbc.controller = .held ∧ t.sgu.list = [] ∧
        t.clc.notices.sign = s.clc.notices.sign.addReason (if s.rbc.lampCut then 5 else 4)) ∧
    (s.rbc.flight = some .lampAllOn → s.rbc.phase = some .allOn → s.rbc.lampCut = false → s.rbc.lampTries + 1 < 3 →
      exec .transferFailed s = .next (s.setRbc
        { s.rbc with
          flight := none, sending := [], busBusy := false, arbLoss := 0, lampTries := s.rbc.lampTries + 1
          lampRetry := some 50 })) ∧
    (s.rbc.lampRetry ≠ none → s.rbc.flight = none → s.rbc.busBusy = false → s.rbc.recovering = false →
      s.rbc.phase = some .allOn →
      exec .lampTransferRetry s = .next (s.setRbc
        { s.rbc with flight := some .lampAllOn, sending := [0, 2, 0, 0xFE], busBusy := true, lampRetry := none }))

/-! ## Intercom -/

/-- A front completion: HELD sends silence and keeps the rest; otherwise the rear-to-front buffer is read, the block
sent is the one Table 8-4 gives, and the block received enters the front-to-rear buffer while the rear link is UP, a
full buffer overrunning to its start offset with a slip (R155, R158, R159, R160, R162, R165). The talk button, the end of
a chime and the end of a PIN hold (R155, R164, R165). A completion that finds the 125 periods of a chime run out is one with
no chime. That the end of a PIN hold acts whatever time is left is the model's choice (log entry 2). -/
def Obligations.FrontPortEvents : Prop :=
  ∀ (s : State) (block : Block), powered s = true →
    (s.piu.held = true → exec (.frontCompletion block) s = .next (s.setPiu { s.piu with fdo := silence })) ∧
    (s.piu.held = false → s.piu.chime = some 0 →
      exec (.frontCompletion block) s = exec (.frontCompletion block) (s.setPiu { s.piu with chime := none })) ∧
    (s.piu.held = false → s.piu.chime ≠ some 0 →
      ∃ t, exec (.frontCompletion block) s = .next t ∧ t.piu.r2f = s.piu.r2f.read.buffer ∧
        t.piu.f2r = (if s.piu.rearUp then (s.piu.f2r.arrive block).buffer else s.piu.f2r) ∧
        t.piu.chime = s.piu.chime.map (fun n => n - 1) ∧
        (s.piu.phase ≠ .none ∨ s.piu.loop = .rearRemote → s.piu.loop ≠ .frontLocal → s.piu.loop ≠ .dual →
          t.piu.fdo = silence) ∧
        (s.piu.phase = .none → s.piu.loop = .frontLocal ∨ s.piu.loop = .dual → t.piu.fdo = block) ∧
        (s.piu.phase = .none → s.piu.loop = .none → s.piu.pinMute ≠ .off → t.piu.fdo = silence) ∧
        (s.piu.phase = .none → s.piu.loop = .none → s.piu.pinMute = .off → s.piu.chime ≠ none →
          t.piu.fdo = chimeBlock) ∧
        (s.piu.phase = .none → s.piu.loop = .none → s.piu.pinMute = .off → s.piu.chime = none →
          t.piu.fdo = (if rearToFrontOpen s then s.piu.r2f.read.block else silence)) ∧
        (s.piu.r2f.flowing = true → s.piu.r2f.blocks = [] → t.piu.r2f.slips = min (s.piu.r2f.slips + 1) 65535 ∧
          (s.clc.notices.intercom.enabled = true → t.clc.notices.intercom.reasons.getLsbD 0 = true)) ∧
        t.fen = s.fen ∧ t.sau = s.sau ∧ t.miu = s.miu ∧ t.vbu = s.vbu ∧ outsideKept s t) ∧
    (s.piu.held = false → s.piu.chime ≠ some 0 → s.piu.rearUp = true → s.piu.f2r.blocks.length = s.piu.f2r.depth →
      s.piu.f2r.offset < s.piu.f2r.depth →
      ∃ t, exec (.frontCompletion block) s = .next t ∧
        t.piu.f2r.blocks = s.piu.f2r.blocks.drop (s.piu.f2r.depth - s.piu.f2r.offset) ++ [block] ∧
        t.piu.f2r.blocks.length = s.piu.f2r.offset + 1 ∧ t.piu.f2r.slips = min (s.piu.f2r.slips + 1) 65535 ∧
        (s.clc.notices.intercom.enabled = true → t.clc.notices.intercom.reasons.getLsbD 0 = true)) ∧
    (s.piu.held = false → s.piu.chime ≠ some 0 → s.piu.rearUp = true → s.piu.f2r.blocks.length < s.piu.f2r.depth →
      ∃ t, exec (.frontCompletion block) s = .next t ∧ t.piu.f2r.blocks = s.piu.f2r.blocks ++ [block] ∧
        t.piu.f2r.slips = s.piu.f2r.slips) ∧
    (∀ p, exec (.frontTalkButton p) s = .next (s.setPiu { s.piu with talk := p })) ∧
    (s.piu.chime = some 0 → exec .chimeEnd s = .next (s.setPiu { s.piu with chime := none })) ∧
    (∀ n, s.piu.pinMute = .hold n → exec .pinHoldExpiry s = .next (s.setPiu { s.piu with pinMute := .off }))

/-- The bytes received on RLI are taken one after the other: in the hunt, bytes before a sync byte are discarded and answered
with nothing; a frame that has begun is kept from one row to the next, and every frame that the bytes complete is taken. A valid
rear frame brings the link UP, fills the rear-to-front buffer, a full one overrunning with a slip, keeps call and status, counts
the auto-loop runs and is answered with a frame of the same 67 bytes; a damaged one is counted and answered only while the link
is UP; 50 ms without a valid frame lose the link, a remote loop and a test's synchronism (R156, R157, R158, R160, R163, R168,
R209, R210). The operands of these rows, and that nothing but a supply failure or a start drops a frame that has begun, are the
model's choice (log entries 1 and 22), and so are the positions that the loss leaves in both buffers (log entry 41); that the
loss raises TEST_SYNC_LOST only with a test active is its reading (log entry 17). -/
def Obligations.RearFramesAreAnswered : Prop :=
  (∀ (s : State) (before after bytes : List Byte) (x : Byte), powered s = true → bytes = before ++ x :: after →
    exec (.damagedFrame before x after) s = exec (.rearFrame before x after) s ∧
    exec (.rearFrame before x after) s = .next (bytes.foldl hearRearByte (s.setPiu { s.piu with rlo := [] })) ∧
    (s.piu.begun = [] → (∀ b ∈ bytes, b ≠ 0xA7) →
      exec (.rearFrame before x after) s = .next (s.setPiu { s.piu with rlo := [] })) ∧
    (∀ noise rest, s.piu.begun = [] → (∀ b ∈ noise, b ≠ 0xA7) → rest.length < 66 → bytes = noise ++ 0xA7 :: rest →
      exec (.rearFrame before x after) s = .next (s.setPiu { s.piu with begun := 0xA7 :: rest, rlo := [] })) ∧
    (∀ pre, s.piu.begun = 0xA7 :: pre → pre.length < 66 →
      exec (.rearFrame before x after) s =
        exec (.rearFrame (0xA7 :: (pre ++ before)) x after) (s.setPiu { s.piu with begun := [] }))) ∧
  (∀ (s : State) (c k : Byte) (block : Block), powered s = true → s.piu.begun = [] → block.length = 32 →
    (0xA7 :: c :: (blockBytes block ++ [k])).foldl hearRearByte s = takeRearFrame c block k s ∧
    (takeRearFrame c block k s).piu.begun = []) ∧
  (∀ (s : State) (before after noise more : List Byte) (x c k : Byte) (block : Block), powered s = true →
    s.piu.begun = [] → (∀ b ∈ noise, b ≠ 0xA7) → (∀ b ∈ more, b ≠ 0xA7) → block.length = 32 →
    before ++ x :: after = noise ++ 0xA7 :: c :: (blockBytes block ++ k :: more) →
    exec (.rearFrame before x after) s = .next (takeRearFrame c block k (s.setPiu { s.piu with rlo := [] })) ∧
    (rearCheckOk c block k = true → s.piu.held = false → s.piu.phase = .none →
      (s.piu.autoLoop = false ∨ s.piu.upRun < 24 ∧ s.piu.downRun < 24) →
      ∃ t k', exec (.rearFrame before x after) s = .next t ∧ t.piu.rearUp = true ∧ t.piu.lastCall = c.getLsbD 7 ∧
        t.piu.lastStatus = (c &&& 0x0F).toNat ∧ t.piu.r2f = (s.piu.r2f.arrive block).buffer ∧
        t.piu.f2r = s.piu.f2r.read.buffer ∧ t.piu.damaged = s.piu.damaged ∧ t.piu.loop = s.piu.loop ∧
        t.piu.upRun = (if s.piu.autoLoop = true ∧ occupied s = false ∧ s.piu.loop = .none ∧ (c >>> 4) &&& 3 = 1
          then s.piu.upRun + 1 else 0) ∧
        t.piu.downRun = (if s.piu.autoLoop = true ∧ s.piu.loop ≠ .none ∧ s.piu.loopRemote = true ∧ (c >>> 4) &&& 3 = 2
          then s.piu.downRun + 1 else 0) ∧
        t.piu.loopDown = s.piu.loopDown - 1 ∧
        t.piu.rlo =
          [0xA7 :: ((if 0 < s.piu.loopDown then 0x20 else 0) ||| (if frontToRearOpen s then 1 else 0)) ::
            (blockBytes (if s.piu.loop = .rearRemote ∨ s.piu.loop = .dual then block
              else if s.piu.loop = .frontLocal then silence
              else if frontToRearOpen s then s.piu.f2r.read.block
              else silence) ++ [k'])] ∧
        (∀ frame ∈ t.piu.rlo, frame.foldl (· + ·) 0 = (0xA7 : Byte)) ∧
        (s.clc.notices.intercom.enabled = true →
          (s.piu.rearUp = false → t.clc.notices.intercom.reasons.getLsbD 2 = true) ∧
          (c.getLsbD 7 = true → s.piu.lastCall = false → t.clc.notices.intercom.reasons.getLsbD 3 = true)) ∧
        t.fen = s.fen ∧ t.sau = s.sau ∧ t.miu = s.miu ∧ t.vbu = s.vbu ∧ outsideKept s t) ∧
    (rearCheckOk c block k = true → s.piu.held = false → s.piu.r2f.blocks.length = s.piu.r2f.depth →
      s.piu.r2f.offset < s.piu.r2f.depth →
      ∃ t, exec (.rearFrame before x after) s = .next t ∧
        t.piu.r2f.blocks = s.piu.r2f.blocks.drop (s.piu.r2f.depth - s.piu.r2f.offset) ++ [block] ∧
        t.piu.r2f.blocks.length = s.piu.r2f.offset + 1 ∧ t.piu.r2f.slips = min (s.piu.r2f.slips + 1) 65535 ∧
        (s.clc.notices.intercom.enabled = true → t.clc.notices.intercom.reasons.getLsbD 0 = true)) ∧
    (rearCheckOk c block k = true → s.piu.held = true → s.piu.phase = .none →
      ∃ t d k', exec (.rearFrame before x after) s = .next t ∧ t.piu.rearUp = true ∧ t.piu.r2f = s.piu.r2f ∧
        t.piu.f2r = s.piu.f2r ∧ t.piu.rlo = [0xA7 :: d :: (blockBytes silence ++ [k'])]) ∧
    (rearCheckOk c block k = false → s.piu.rearUp = false → s.piu.phase = .none →
      exec (.damagedFrame before x after) s =
        .next (s.setPiu { s.piu with damaged := min (s.piu.damaged + 1) 65535, rlo := [] })) ∧
    (rearCheckOk c block k = false → s.piu.rearUp = true → s.piu.phase = .none →
      ∃ t, exec (.damagedFrame before x after) s = .next t ∧ t.piu.damaged = min (s.piu.damaged + 1) 65535 ∧
        t.piu.r2f = s.piu.r2f ∧ t.piu.lastCall = s.piu.lastCall ∧ t.piu.lastStatus = s.piu.lastStatus ∧
        t.piu.rearUp = true ∧ (∃ d b k', t.piu.rlo = [0xA7 :: d :: (blockBytes b ++ [k'])]) ∧ t.fen = s.fen)) ∧
  (∀ s : State, powered s = true → s.piu.rearUp = true →
    (s.piu.loopRemote = false → s.piu.phase = .none →
      exec .rearLinkLost s = .next (raise .rearLost (s.setPiu
        { s.piu with
          rearUp := false, lastCall := false, upRun := 0, downRun := 0
          r2f := { s.piu.r2f with writePos := 0, readPos := 0, blocks := [], flowing := false }
          f2r := { s.piu.f2r with writePos := 0, readPos := 0, blocks := [], flowing := false } }))) ∧
    (∃ t, exec .rearLinkLost s = .next t ∧ t.piu.rearUp = false ∧ t.piu.lastCall = false ∧ t.piu.r2f.blocks = [] ∧
      t.piu.f2r.blocks = [] ∧ t.piu.phase = s.piu.phase ∧
      t.piu.loop = (if s.piu.loopRemote then .none else s.piu.loop) ∧
      (∀ reg errors, s.piu.phase ≠ .none → s.piu.checker = .sync reg errors → t.piu.checker = .search 0 0) ∧
      (s.clc.notices.intercom.enabled = true →
        t.clc.notices.intercom.reasons.getLsbD 1 = true ∧
        (s.piu.loop ≠ .none → s.piu.loopRemote = true → t.clc.notices.intercom.reasons.getLsbD 6 = true) ∧
        (∀ reg errors, s.piu.phase ≠ .none → s.piu.checker = .sync reg errors →
          t.clc.notices.intercom.reasons.getLsbD 8 = true)) ∧ t.fen = s.fen ∧ t.sau = s.sau))

/-- The frame that completes a run or a phase: the 25th LOOP_UP begins the remote loop, the 25th LOOP_DOWN ends it, the
25th reply of ANNOUNCE begins RUNNING, the fourth errored block in a row loses the test's synchronism (R168, R169,
R170). Before that, ANNOUNCE answers with LOOP_UP and silence; in RUNNING each reply carries the next block of the test
sequence, its first bit inverted when an error is to be inserted, and the checker takes the block of every frame: a match
in SEARCH is TEST_SYNC, and in SYNC blocks and bit errors are counted (R169 to R171). That a row naming such an outcome does
nothing when the outcome does not come about is the model's choice (log entry 5), and so are the operands of these rows (log
entries 1 and 22). -/
def Obligations.RearFramesAtTheirBounds : Prop :=
  ∀ (s : State) (before after noise more : List Byte) (x c k : Byte) (block : Block), powered s = true →
    s.piu.begun = [] → (∀ b ∈ noise, b ≠ 0xA7) → (∀ b ∈ more, b ≠ 0xA7) → block.length = 32 →
    before ++ x :: after = noise ++ 0xA7 :: c :: (blockBytes block ++ k :: more) →
    (rearCheckOk c block k = true → s.piu.autoLoop = true → s.piu.held = false → occupied s = false →
      s.piu.loop = .none → s.piu.phase = .none → s.piu.upRun = 24 → (c >>> 4) &&& 3 = 1 →
      ∃ t, exec (.remoteLoopOn before x after) s = .next t ∧ exec (.rearFrame before x after) s = .next t ∧
        t.piu.loop = .rearRemote ∧ t.piu.loopRemote = true ∧ t.piu.upRun = 0 ∧
        (s.clc.notices.intercom.enabled = true → t.clc.notices.intercom.reasons.getLsbD 5 = true) ∧ t.fen = s.fen) ∧
    (rearCheckOk c block k = true → s.piu.autoLoop = true → s.piu.loop ≠ .none → s.piu.loopRemote = true →
      s.piu.downRun = 24 → (c >>> 4) &&& 3 = 2 →
      ∃ t, exec (.remoteLoopOff before x after) s = .next t ∧ exec (.rearFrame before x after) s = .next t ∧
        t.piu.loop = .none ∧ t.piu.downRun = 0 ∧
        (s.clc.notices.intercom.enabled = true → t.clc.notices.intercom.reasons.getLsbD 6 = true) ∧ t.fen = s.fen) ∧
    (∀ n, rearCheckOk c block k = true → s.piu.held = false → s.piu.phase = .announce n → n < 24 →
      ∃ t k', exec (.rearFrame before x after) s = .next t ∧ t.piu.phase = .announce (n + 1) ∧
        t.piu.gen = s.piu.gen ∧ t.piu.checker = s.piu.checker ∧
        t.piu.rlo = [0xA7 :: (0x10 ||| (if frontToRearOpen s then 1 else 0)) :: (blockBytes silence ++ [k'])] ∧
        t.fen = s.fen) ∧
    (rearCheckOk c block k = true → s.piu.held = false → s.piu.phase = .announce 24 →
      ∃ t k', exec (.announceEnd before x after) s = .next t ∧ exec (.rearFrame before x after) s = .next t ∧
        t.piu.phase = .running ∧
        t.piu.rlo = [0xA7 :: (0x10 ||| (if frontToRearOpen s then 1 else 0)) :: (blockBytes silence ++ [k'])] ∧
        t.fen = s.fen) ∧
    (rearCheckOk c block k = true → s.piu.held = false → s.piu.phase = .running →
      ∃ t k', exec (.rearFrame before x after) s = .next t ∧ t.piu.phase = .running ∧ t.piu.insertion = false ∧
        t.piu.gen = (genSamples 32 s.piu.gen).2 ∧
        t.piu.rlo = [0xA7 :: (if frontToRearOpen s then 1 else 0) ::
          (blockBytes (if s.piu.insertion then (genSamples 32 s.piu.gen).1.modifyHead (· ^^^ 0x8000)
            else (genSamples 32 s.piu.gen).1) ++ [k'])] ∧ t.fen = s.fen) ∧
    (∀ reg bits r, s.piu.phase = .running → s.piu.checker = .search reg bits →
      r = (blockBits block).foldl searchBit ⟨reg, bits, true, false⟩ →
      ∃ t, exec (.rearFrame before x after) s = .next t ∧ t.piu.checked = s.piu.checked ∧
        t.piu.checker = (if r.matched = true ∧ r.ones = true then .sync r.reg 0 else .search r.reg r.bits) ∧
        (s.clc.notices.intercom.enabled = true → r.matched = true → r.ones = true →
          t.clc.notices.intercom.reasons.getLsbD 7 = true)) ∧
    (∀ reg errors r, s.piu.phase = .running → s.piu.checker = .sync reg errors →
      r = (blockBits block).foldl syncBit ⟨reg, 0⟩ →
      (r.diff = 0 →
        ∃ t, exec (.rearFrame before x after) s = .next t ∧ t.piu.checker = .sync r.reg 0 ∧
          t.piu.checked = min (s.piu.checked + 1) 4294967295 ∧ t.piu.errored = s.piu.errored ∧
          t.piu.bitErrors = s.piu.bitErrors) ∧
      (r.diff ≠ 0 → errors < 3 →
        ∃ t, exec (.rearFrame before x after) s = .next t ∧ t.piu.checker = .sync r.reg (errors + 1) ∧
          t.piu.checked = min (s.piu.checked + 1) 4294967295 ∧ t.piu.errored = min (s.piu.errored + 1) 4294967295 ∧
          t.piu.bitErrors = min (s.piu.bitErrors + r.diff) 4294967295) ∧
      (r.diff ≠ 0 → errors = 3 →
        ∃ t, exec (.testSyncLost before x after) s = .next t ∧ exec (.rearFrame before x after) s = .next t ∧
          t.piu.checker = .search 0 0 ∧ t.piu.checked = min (s.piu.checked + 1) 4294967295 ∧
          t.piu.errored = min (s.piu.errored + 1) 4294967295 ∧
          t.piu.bitErrors = min (s.piu.bitErrors + r.diff) 4294967295 ∧
          (s.clc.notices.intercom.enabled = true → t.clc.notices.intercom.reasons.getLsbD 8 = true)))

/-- The requests of the intercom: the floor, loops, the link test and its error insertion, hold, configuration, release
and the read, each where its rule allows it (R161, R166, R169, R171 to R176). The layout of IC_READ is the model's (log
entries 13 and 42), and so are the positions that IC_RELEASE leaves in both buffers (log entry 41). -/
def Obligations.IntercomRequestsAreServed : Prop :=
  ∀ s : State, listening s = true →
    (∀ n m, floorOf n = some m →
      exec (.icFloor n) s = .next (answered 0x68 .ok [] (s.setPiu { s.piu with floor := m }))) ∧
    (∀ n, floorOf n = none → exec (.icFloor n) s = .next (answered 0x68 .badField [] s)) ∧
    (∀ n, loopOf n = none → exec (.icLoop n) s = .next (answered 0x69 .badField [] s)) ∧
    (∀ n l, loopOf n = some l → s.piu.held = false → occupied s = false → s.piu.phase = .none →
      exec (.icLoop n) s = .next (answered 0x69 .ok [] (s.setPiu
        { s.piu with loop := l, loopRemote := false, upRun := 0, downRun := 0, chime := none }))) ∧
    (∀ n l, loopOf n = some l → (s.piu.held = true ∨ occupied s = true ∨ s.piu.phase ≠ .none) →
      exec (.icLoop n) s = .next (answered 0x69 .notAllowed [] s)) ∧
    (s.piu.phase ≠ .none → exec .icTestStart s = .next (answered 0x6A .busy [] s)) ∧
    (s.piu.phase = .none → (s.piu.held = true ∨ occupied s = true ∨ s.piu.rearUp = false ∨ s.piu.loop ≠ .none) →
      exec .icTestStart s = .next (answered 0x6A .notAllowed [] s)) ∧
    (s.piu.phase = .none → s.piu.held = false → occupied s = false → s.piu.rearUp = true → s.piu.loop = .none →
      exec .icTestStart s = .next (answered 0x6A .ok [] (s.setPiu
        { s.piu with
          checked := 0, errored := 0, bitErrors := 0, insertion := false, loopDown := 0, upRun := 0, downRun := 0
          chime := none, gen := 0x7FFF, checker := .search 0 0, phase := .announce 0 }))) ∧
    (s.piu.phase ≠ .none →
      exec .icTestStop s = .next (answered 0x6B .ok
        (be 1 s.piu.phase.code ++ be 1 s.piu.checker.code ++ be 4 s.piu.checked ++ be 4 s.piu.errored
          ++ be 4 s.piu.bitErrors)
        (s.setPiu { s.piu with phase := .none, insertion := false, loopDown := 25 }))) ∧
    (s.piu.phase = .none → exec .icTestStop s = .next (answered 0x6B .notAllowed [] s) ∧
      exec .icInsertError s = .next (answered 0x6C .notAllowed [] s)) ∧
    (s.piu.phase ≠ .none → s.piu.insertion = false →
      exec .icInsertError s = .next (answered 0x6C .ok [] (s.setPiu { s.piu with insertion := true }))) ∧
    (s.piu.phase ≠ .none → s.piu.insertion = true → exec .icInsertError s = .next (answered 0x6C .busy [] s)) ∧
    (s.piu.held = true → exec .icHold s = .next (answered 0x6D .notAllowed [] s)) ∧
    (s.piu.held = false →
      ∃ t, exec .icHold s = .next t ∧ t.clc.answer = some (.reply 0xED .ok []) ∧ t.piu.held = true ∧
        t.piu.r2f.blocks = [] ∧ t.piu.f2r.blocks = [] ∧ t.piu.r2f.slips = 0 ∧ t.piu.f2r.slips = 0 ∧
        t.piu.damaged = 0 ∧ t.piu.checked = 0 ∧ t.piu.errored = 0 ∧ t.piu.bitErrors = 0 ∧ t.piu.loop = .none ∧
        t.piu.phase = .none ∧ t.piu.chime = none ∧ t.piu.floor = s.piu.floor ∧ t.piu.rearUp = s.piu.rearUp ∧
        t.fen = s.fen ∧ t.sau = s.sau ∧ outsideKept s t) ∧
    (∀ d o a c x y, s.piu.held = true → flagOf a = some x → flagOf c = some y →
      ((d = 8 ∨ d = 16) → 2 ≤ o → o ≤ d - 2 →
        exec (.icConfig d o a c) s = .next (answered 0x6E .ok [] (s.setPiu
          { s.piu with depth := d, offset := o, autoLoop := x, chimeOn := y }))) ∧
      (d ≠ 8 ∧ d ≠ 16 ∨ o < 2 ∨ d - 2 < o →
        exec (.icConfig d o a c) s = .next (answered 0x6E .badField [] s))) ∧
    (∀ d o a c, s.piu.held = false → exec (.icConfig d o a c) s = .next (answered 0x6E .notAllowed [] s)) ∧
    (s.piu.held = true →
      exec .icRelease s = .next (answered 0x6F .ok [] (s.setPiu
        { s.piu with
          held := false, r2f := ⟨s.piu.depth, s.piu.offset, 0, 0, [], false, s.piu.r2f.slips⟩
          f2r := ⟨s.piu.depth, s.piu.offset, 0, 0, [], false, s.piu.f2r.slips⟩ }))) ∧
    (s.piu.held = false → exec .icRelease s = .next (answered 0x6F .notAllowed [] s)) ∧
    exec .icRead s = .next (answered 0x70 .ok (serveIcRead s).payload s)

/-! ## Console link, notices and supply -/

/-- A reason raises its kind only while it is enabled (R186); ATTN is low exactly while a kind is raised,
RESETN high and the supply present (R188); GET_NOTICE hands out the raised kind of highest priority
(R189); SET_NOTICE_ENABLES drops what it disables and raises a condition that holds (R190). -/
def Obligations.NoticesAreRaisedAndHandedOut : Prop :=
  ∀ s : State,
    (attnLow s = true ↔
      s.smr.pins.resetHigh = true ∧ s.smr.pins.present = true ∧ ∃ k, (s.clc.notices.get k).raised = true) ∧
    (∀ (r : Reason) (n : Notice), s.clc.notices.get r.kind = n →
      (raise r s).clc.notices.get r.kind =
        (if n.enabled then { n with raised := true, reasons := n.reasons ||| (1#16 <<< r.bit) } else n) ∧
      (∀ k, k ≠ r.kind → (raise r s).clc.notices.get k = s.clc.notices.get k)) ∧
    (listening s = true → (∀ k, (s.clc.notices.get k).raised = false) →
      exec .getNotice s = .next (answered 0x01 .ok [0, 0, 0, 0, 0, 0] s)) ∧
    (∀ (k : NoticeKind) (n : Notice), listening s = true → s.clc.notices.get k = n → n.raised = true →
      (∀ j : NoticeKind, j.code < k.code → (s.clc.notices.get j).raised = false) →
      ∃ t, exec .getNotice s = .next t ∧ t.clc.notices.get k = { n with raised := false, reasons := 0 } ∧
        (∀ j, j ≠ k → t.clc.notices.get j = s.clc.notices.get j) ∧
        t.clc.supplyDetail = (if k = .supply then none else s.clc.supplyDetail) ∧
        t.clc.answer = some (.reply 0x81 .ok (be 1 k.code ++ be 2 (if k.isCondition then 0 else n.reasons.toNat)
          ++ flagByte (k.isCondition && n.holds) ++ be 2 (raisedWord t.clc.notices).toNat ++ noticeDetail s k)) ∧
        t.miu = s.miu ∧ t.fen = s.fen ∧ t.vbu = s.vbu ∧ t.stu = s.stu ∧ t.sau = s.sau ∧ t.sgu = s.sgu ∧
        outsideKept s t) ∧
    (∀ enables : BitVec 16, listening s = true → enables.getLsbD 14 = false → enables.getLsbD 15 = false →
      ∃ t, exec (.setNoticeEnables enables) s = .next t ∧
        t.clc.answer =
          some (.reply 0x82 .ok (be 2 (enabledWord t.clc.notices).toNat ++ be 2 (raisedWord t.clc.notices).toNat)) ∧
        (∀ (k : NoticeKind) (n : Notice), s.clc.notices.get k = n →
          t.clc.notices.get k =
            if n.enabled = true ∧ enables.getLsbD (k.code - 1) = false then ⟨false, false, 0, n.holds⟩
            else if n.enabled = false ∧ enables.getLsbD (k.code - 1) = true then
              ⟨true, k.isCondition && n.holds, 0, n.holds⟩
            else n) ∧
        t.clc.supplyDetail = (if t.clc.notices.supply.enabled then s.clc.supplyDetail else none) ∧
        t.miu = s.miu ∧ t.fen = s.fen ∧ t.vbu = s.vbu ∧ t.stu = s.stu ∧ t.sau = s.sau ∧ t.sgu = s.sgu ∧
        outsideKept s t) ∧
    (∀ enables : BitVec 16, listening s = true → (enables.getLsbD 14 = true ∨ enables.getLsbD 15 = true) →
      exec (.setNoticeEnables enables) s = .next (answered 0x02 .badField [] s))

/-- IDENTIFY and STATUS are answered in every state and change nothing (R191, R192). RESTART is taken only with every slot
EMPTY and no session; its start, after the reply, starts the console link, the view, the terminal link, the sign and the
intercom afresh, a lamp test ending without a notice, reports the conditions that hold, and keeps metering, tariffs, hires,
payments and the shift (R78, R112, R154, R177, R193, R200). That the return time is the clock at the row RESTART_START is the
model's choice (log entry 35), and so are, of what the intercom is left with, the silence and the missing reply on its lines
and its generator register (log entry 30), the origin of the loop (log entry 16), the positions in both buffers (log entry
41) and the dropping of a rear frame that has begun (log entry 22), and that compositions not yet made are dropped (log entry
4). -/
def Obligations.IdentificationAndRestart : Prop :=
  ∀ s : State,
    (listening s = true →
      exec .identify s = .next (answered 0x03 .ok
        ([0x56, 0x41, 0x53, 0x42, 0x45, 0x4C, 0x32, 0x34] ++ [revisionByte] ++ be 2 formatNumber) s) ∧
      exec .status s = .next (answered 0x04 .ok
        (clcDigest s ++ miuDigest s.miu ++ clockDigest s ++ fenDigest s ++ vbuDigest s ++ payDigest s ++ sauDigest s
          ++ signDigest s ++ piuDigest s.piu ++ smrDigest s.smr) s) ∧
      ((occupied s = true ∨ s.tlc.session ≠ none) → exec .restart s = .next (answered 0x05 .notAllowed [] s)) ∧
      (occupied s = false → s.tlc.session = none →
        exec .restart s = .next (answered 0x05 .ok [] (s.setSmr { s.smr with restart := some s.cku.now })))) ∧
    (∀ taken, s.smr.restart = some taken → s.smr.supply = .starting →
      ∃ t, exec .restartStart s = .next t ∧
        t.smr = { s.smr with
          supply := .up, restart := none, lastStart := ⟨.restart, ⟨some taken, s.cku.now⟩⟩ } ∧
        t.clc =
          { rx := .hunt, bytes := [], buffer := none, answer := none, owed := [], gapCount := 0, overrunCount := 0
            lengthCount := 0, checkCount := 0, supplyDetail := some ⟨some taken, s.cku.now⟩
            notices := { NoticeSet.clear with
              supply := ⟨true, true, 4, false⟩
              alert := ⟨true, s.sgu.latch, 0, s.sgu.latch⟩
              displayStale := ⟨true, s.vbu.lagCount == 0, 0, s.vbu.lagCount == 0⟩
              authWaiting := ⟨true, authWaiting s, 0, authWaiting s⟩ } } ∧
        t.vbu = { s.vbu with
          bufA := some ⟨(s.vbu.seq + 1) % 65536, s.cku.now, viewEntries s.fen.slots⟩, bufB := none, bufC := none
          write := .B, ready := .A, console := .C, seq := (s.vbu.seq + 1) % 65536, overwritten := 0 } ∧
        (occupied s = false → viewEntries s.fen.slots = ⟨none, none, none, none⟩) ∧ t.transit.vbu = [] ∧
        t.tlc = ⟨false, 0, none, none, none, none⟩ ∧
        t.rbc = { s.rbc with
          acked := ⟨none, none, none, none⟩, modules := s.sgu.roles.map (fun a => a.map fun _ => .unknown)
          probe := ⟨none, none, none, none⟩
          controller := if s.sgu.roles.availability = none then .held else .running
          holdPending := false, phase := none, busBusy := true, idleOnly := true, arbLoss := 0, flight := none
          sending := [], arbWait := false, recovering := false, lampTries := 0, lampRetry := none, litLeft := 0
          lampCut := false } ∧
        t.sgu = { s.sgu with
          text := [], label := scheduledLabel s, desired := desiredImage t
          list := if s.sgu.roles.availability = none then []
            else ([Role.alert, .availability, .seats, .text].filter fun r => (s.sgu.roles.get r).isSome).map
              fun r => ⟨r, (desiredImage t).get r, 0, false, none, false⟩ } ∧
        t.piu = { s.piu with
          held := false, floor := .driverPtt, talk := false, rearUp := false, lastCall := false, lastStatus := 0
          damaged := 0, r2f := .empty s.piu.depth s.piu.offset, f2r := .empty s.piu.depth s.piu.offset
          pinMute := .hold 2000, chime := none, loop := .none, loopRemote := false, upRun := 0, downRun := 0
          phase := .none, gen := 0x7FFF, checker := .search 0 0, checked := 0, errored := 0, bitErrors := 0
          insertion := false, loopDown := 0, fdo := silence, begun := [], rlo := [] } ∧
        t.miu = s.miu ∧ t.cku = s.cku ∧ t.tfs = s.tfs ∧ t.fen = s.fen ∧ t.stu = s.stu ∧ t.sau = s.sau)

/-- In HUNT every byte but the start byte is discarded, and so is one with a framing error; inside a frame a byte with a
framing error is taken as any other (R178); a length field of 0 or above 260 is counted and rejected
(R179); a gap inside a frame is counted and raises LINK GAP, and in HUNT no time limit applies (R181); a frame with a wrong
CRC, whatever its body, is counted and rejected with its kind, at once or as an owed answer, with 4 owed not at all (R180,
R182). That the receiver hears bytes and gaps also while a RESTART waits for its start is the model's reading (log entry
26). -/
def Obligations.ReceiverRejectsBadFrames : Prop :=
  ∀ s : State, powered s = true →
    (s.clc.rx = .hunt →
      exec (.consoleStartByte ⟨0xC5, false⟩) s = .next (s.setClc { s.clc with rx := .length, bytes := [] })) ∧
    (∀ b, s.clc.rx = .hunt → b ≠ 0xC5 → exec (.consoleStartByte ⟨b, false⟩) s = .next s) ∧
    (∀ b, s.clc.rx = .hunt → exec (.consoleStartByte ⟨b, true⟩) s = .next s) ∧
    (∀ b, s.clc.rx ≠ .hunt → exec (.consoleStartByte ⟨b, true⟩) s = exec (.consoleStartByte ⟨b, false⟩) s) ∧
    (∀ b e, s.clc.rx = .length → s.clc.bytes = [] →
      exec (.consoleStartByte ⟨b, e⟩) s = .next (s.setClc { s.clc with bytes := [b] })) ∧
    (∀ hi lo, s.clc.rx = .hunt → (beValue [hi, lo] = 0 ∨ 260 < beValue [hi, lo]) → listening s = true →
      answerIdle s.clc = true → exec (.lengthFieldFault [0xC5, hi, lo]) s = .next (s.setClc
        { s.clc with
          bytes := [], lengthCount := min (s.clc.lengthCount + 1) 65535, answer := some (.reject .lengthField none) })) ∧
    (∀ hi lo, s.clc.rx = .hunt → (beValue [hi, lo] = 0 ∨ 260 < beValue [hi, lo]) → listening s = true →
      answerIdle s.clc = false → exec (.lengthFieldFault [0xC5, hi, lo]) s = .next (s.setClc
        { s.clc with
          bytes := [], lengthCount := min (s.clc.lengthCount + 1) 65535
          owed := if s.clc.owed.length < 4 then s.clc.owed ++ [.reject .lengthField none] else s.clc.owed })) ∧
    (s.clc.rx ≠ .hunt → exec .frameGap s = .next (raise .gap (s.setClc
      { s.clc with rx := .hunt, bytes := [], gapCount := min (s.clc.gapCount + 1) 65535 }))) ∧
    (s.clc.rx = .hunt → exec .frameGap s = .next s) ∧
    (∀ kind body x y, s.clc.rx = .hunt → listening s = true → body.length ≤ 259 →
      [x, y] ≠ be 2 (crc16 (be 2 (body.length + 1) ++ kind :: body)).toNat →
      (answerIdle s.clc = true →
        exec (.consoleFrameComplete (0xC5 :: (be 2 (body.length + 1) ++ kind :: body ++ [x, y]))) s = .next (s.setClc
          { s.clc with
            bytes := [], checkCount := min (s.clc.checkCount + 1) 65535
            answer := some (.reject .check (some kind)) })) ∧
      (answerIdle s.clc = false →
        exec (.consoleFrameComplete (0xC5 :: (be 2 (body.length + 1) ++ kind :: body ++ [x, y]))) s = .next (s.setClc
          { s.clc with
            bytes := [], checkCount := min (s.clc.checkCount + 1) 65535
            owed := if s.clc.owed.length < 4 then s.clc.owed ++ [.reject .check (some kind)] else s.clc.owed })))

/-- When the last byte of an answer has gone out, a RESTART begins its start or the first owed answer becomes the answer in
progress (R182, R183, R200); a frame that completes between the taking of a RESTART and its start is discarded without an
answer (R193, R200), its length or CRC fault counted as the model reads R185 (log entry 26); a valid frame is taken at once
with nothing in progress or owed, is otherwise buffered, and with the buffer full or 4 owed is an overrun (R182); a request
of an unassigned kind is answered UNKNOWN_REQUEST (R184). That ANSWER_END with no answer in progress does nothing is the
model's choice (log entry 3). -/
def Obligations.AnswersAndOwedAnswers : Prop :=
  ∀ s : State,
    (powered s = true → s.clc.answer = none → exec .answerEnd s = .next s) ∧
    (∀ a taken, powered s = true → s.clc.answer = some a → s.smr.restart = some taken →
      exec .answerEnd s = .next ((s.setClc { s.clc with answer := none }).setSmr { s.smr with supply := .starting })) ∧
    (∀ a, powered s = true → s.clc.answer = some a → s.smr.restart = none →
      (s.clc.owed = [] → exec .answerEnd s = .next (s.setClc { s.clc with answer := none })) ∧
      (∀ cause kind rest, s.clc.owed = .reject cause kind :: rest →
        exec .answerEnd s = .next (s.setClc { s.clc with owed := rest, answer := some (.reject cause kind) })) ∧
      (∀ f rest c g, s.clc.owed = .request :: rest → s.clc.buffer = some f → parseRequest f.kind f.body = .request c →
        ownerOf c = some g →
        exec .answerEnd s =
          .next (answerWith f.kind g (s.setClc { s.clc with owed := rest, buffer := none, answer := none }))) ∧
      (∀ f rest, s.clc.owed = .request :: rest → s.clc.buffer = some f → parseRequest f.kind f.body = .unassigned →
        exec .answerEnd s = .next (s.setClc { s.clc with
          owed := rest, buffer := none
          answer := some (if 1 ≤ f.kind.toNat ∧ f.kind.toNat ≤ 0x7E then .reply (f.kind + 0x80) .unknownRequest []
            else .reply 0xFE .unknownRequest [f.kind]) })) ∧
      (∀ f rest, s.clc.owed = .request :: rest → s.clc.buffer = some f → parseRequest f.kind f.body = .badLength →
        exec .answerEnd s = .next (s.setClc { s.clc with
          owed := rest, buffer := none, answer := some (.reply (f.kind + 0x80) .badLength []) })) ∧
      (∀ f rest, s.clc.owed = .request :: rest → s.clc.buffer = some f → parseRequest f.kind f.body = .badCode →
        exec .answerEnd s = .next (s.setClc { s.clc with
          owed := rest, buffer := none, answer := some (.reply (f.kind + 0x80) .badField []) }))) ∧
    (∀ hi lo, powered s = true → s.smr.restart ≠ none → s.clc.rx = .hunt →
      (beValue [hi, lo] = 0 ∨ 260 < beValue [hi, lo]) →
      exec (.lengthFieldFault [0xC5, hi, lo]) s = .next (s.setClc
        { s.clc with bytes := [], lengthCount := min (s.clc.lengthCount + 1) 65535 })) ∧
    (∀ kind body x y, powered s = true → s.smr.restart ≠ none → s.clc.rx = .hunt → body.length ≤ 259 →
      exec (.consoleFrameComplete (0xC5 :: (be 2 (body.length + 1) ++ kind :: body ++ [x, y]))) s = .next (s.setClc
        { s.clc with
          bytes := []
          checkCount := if [x, y] = be 2 (crc16 (be 2 (body.length + 1) ++ kind :: body)).toNat then s.clc.checkCount
            else min (s.clc.checkCount + 1) 65535 })) ∧
    (∀ kind body, listening s = true → s.clc.rx = .hunt → body.length ≤ 259 →
      exec (.consoleFrameComplete (linkFrame 0xC5 kind body)) s =
        .next (placeFrame ⟨kind, body⟩ (s.setClc { s.clc with bytes := [] }))) ∧
    (∀ f, answerIdle s.clc = false → 4 ≤ s.clc.owed.length →
      placeFrame f s = raise .overrun (s.setClc
        { s.clc with overrunCount := min (s.clc.overrunCount + 1) 65535 })) ∧
    (∀ f, answerIdle s.clc = false → s.clc.buffer = none → s.clc.owed.length < 4 →
      placeFrame f s = s.setClc { s.clc with buffer := some f, owed := s.clc.owed ++ [.request] }) ∧
    (∀ f, answerIdle s.clc = false → s.clc.buffer ≠ none → s.clc.owed.length < 4 →
      placeFrame f s = raise .overrun (s.setClc
        { s.clc with
          overrunCount := min (s.clc.overrunCount + 1) 65535
          owed := s.clc.owed ++ [.reject .overrun (some f.kind)] })) ∧
    (∀ kind : Byte, listening s = true → parseRequest kind [] = .unassigned →
      exec (.unknownRequest kind) s = .next (s.setAnswer (some
        (if 1 ≤ kind.toNat ∧ kind.toNat ≤ 0x7E then .reply (kind + 0x80) .unknownRequest []
          else .reply 0xFE .unknownRequest [kind]))))

/-- A whole console frame that carries a request runs exactly that request, whatever its fields, and two frames that carry
the same request have the same kind and body: no bit of a frame is dropped on the way to the owning block (R178, R180, R182,
R184, R203, R204). -/
def Obligations.FramesCarryTheirRequests : Prop :=
  (∀ (kind kind' : Byte) (body body' : List Byte) (c : Instr), parseRequest kind body = .request c →
    parseRequest kind' body' = .request c → kind = kind' ∧ body = body') ∧
  ∀ (kind : Byte) (body : List Byte) (c : Instr) (owner : State → Served) (s : State), listening s = true →
    s.clc.rx = .hunt → answerIdle s.clc = true → body.length ≤ 259 → parseRequest kind body = .request c →
    ownerOf c = some owner →
    exec (.consoleFrameComplete (linkFrame 0xC5 kind body)) s = exec c (s.setClc { s.clc with bytes := [] }) ∧
    exec c (s.setClc { s.clc with bytes := [] }) =
      .next (answerWith kind owner (s.setClc { s.clc with bytes := [] }))

/-- A supply failure closes the second with a partial report, suspends the RUNNING hires, stops the blocks, drops the working
state and marks the store, unless the supply died before the mark (R4, R40, R194, R195). That events on their way are taken
first and how the working state stands while the part is down are the model's choices (log entries 6 and 29). The events
issued and not yet taken are a list in State, the model's choice (log entry 4). The metres of the partial report are posted
as rejected distance to a shift that runs, after the reports issued before it (R4, R119). ATTN is released while RESETN is
low or the supply absent, and the raised flags that stand keep it low in a dip of PFAIL (R188); that the row carries both
levels, and in the state DOWN them alone, is the model's choice (log entry 34). That the failure causes no composition is the
model's choice (log entry 38). -/
def Obligations.SupplyFailureStopsTheBlocks : Prop :=
  (∀ (s : State) (written : Bool) (pins : SupplyPins), s.smr.supply = .down →
    exec (.supplyFailure ⟨written, pins⟩) s = .next (s.setSmr { s.smr with pins := pins })) ∧
  ∀ (s : State) (written : Bool) (pins : SupplyPins), powered s = true →
    ∃ t, exec (.supplyFailure ⟨written, pins⟩) s = .next t ∧ t.smr.supply = .down ∧ t.smr.pins = pins ∧
      (pins.resetHigh = false ∨ pins.present = false → attnLow t = false) ∧
      (s.transit.fen = [] → t.clc.notices = s.clc.notices ∧ (pins = s.smr.pins → attnLow t = attnLow s)) ∧
      (∀ k, t.hireState k ≠ some .running) ∧
      (s.transit.fen = [] → ∀ k h, s.hire k = some h →
        t.hire k = some (if h.state = .running then { h with state := .suspended } else h)) ∧
      t.miu = { s.miu with secondCount := 0, calActive := false, rawPulses := 0 } ∧ t.cku = s.cku ∧ t.tfs = s.tfs ∧
      t.stu = s.stu ∧ t.tlc.session = none ∧ t.tlc.slot = none ∧ t.tlc.exchange = none ∧ t.clc.rx = .hunt ∧
      t.clc.answer = none ∧ t.clc.owed = [] ∧ t.clc.buffer = none ∧ t.transit = ⟨[], [], [], []⟩ ∧
      t.vbu.bufA = none ∧ t.vbu.bufB = none ∧ t.vbu.bufC = none ∧ t.rbc.flight = none ∧ t.piu.loop = .none ∧
      t.piu.phase = .none ∧ t.smr.lastStart = s.smr.lastStart ∧ t.smr.restart = none ∧
      (written = true → t.smr.closing = true ∧ t.smr.agrees = true ∧
        t.smr.loss = if s.smr.closing then s.smr.loss else some s.cku.now) ∧
      (written = false → t.smr.closing = s.smr.closing ∧ t.smr.agrees = s.smr.agrees ∧ t.smr.loss = s.smr.loss) ∧
      t.sau.shift = s.sau.shift ∧ t.sau.number = s.sau.number ∧ t.sau.slot0 = s.sau.slot0 ∧
      t.sau.slot1 = s.sau.slot1 ∧ (s.sau.shift = .closed → t.sau = s.sau) ∧
      (s.transit.fen = [] → s.transit.sau = [] → s.sau.shift ≠ .closed →
        t.sau = { s.sau with
          live := { s.sau.live with
            shiftDistance := min (s.sau.live.shiftDistance + s.miu.secondCount) 281474976710655
            rejectedDistance := min (s.sau.live.rejectedDistance + s.miu.secondCount) 281474976710655 } }) ∧
      (s.transit.fen = [] →
        t.sau = (postReport ⟨s.cku.now, s.miu.secondCount, .part⟩
          (s.transit.sau.foldl (fun u r => postReport r u) s)).sau)

/-- A supply return with the store standing restores: metering, tariffs, shift and payments as they were, with the links and
the view afresh and the interruption posted in number and seconds (R63, R112, R124, R196 to R198); a SUSPENDED hire stands
but for the schedule refresh (R48). With the store not standing it is a blank start, which leaves the machine as after reset
at the clock's time, and cut before its last write it leaves format number 0 (R199); the reset values the model chose are
those of log entries 8, 12, 16, 22, 30 and 41. The evaluation point is that of the clock at the return (R32). A start may be
cut by a failure, which finds the mark cleared once the start has begun and may come before the mark is written again (R195,
R198); the order of its steps is the model's choice (log entry 21), and so are the levels that the cut carries (log entry
34). The events issued and not yet taken are a list in State, the model's choice (log entry 4). -/
def Obligations.SupplyReturnStartsTheBlocks : Prop :=
  ∀ (s : State) (stopped : Bool) (c : Cku), s.smr.supply = .down →
    c = (if stopped then ⟨⟨⟨2000, 1, 1⟩, 0, 0, 0⟩, false⟩ else s.cku) →
    (s.smr.closing = true → s.smr.format = .own → s.smr.agrees = true →
      ∃ t, exec (.supplyReturn .intact stopped none) s = .next t ∧ t.cku = c ∧
        t.smr = { s.smr with
          supply := .up, closing := false, lastStart := ⟨.restore, ⟨s.smr.loss, c.now⟩⟩, pins := ⟨true, true⟩ } ∧
        t.clc.supplyDetail = some ⟨s.smr.loss, c.now⟩ ∧ t.clc.notices.supply = ⟨true, true, 1, false⟩ ∧
        t.miu = { s.miu with
          remainder := 0, secondCount := 0, calActive := false, rawPulses := 0, sealOpen := true, sealTaken := false } ∧
        t.tfs.active = s.tfs.active ∧ t.tfs.valid = s.tfs.valid ∧ t.tfs.version = s.tfs.version ∧
        t.tfs.staged = ⟨[], [], [], []⟩ ∧ t.tfs.scheduled = scheduledAt (activeSet s) t.tfs.point ∧
        t.tfs.point = ⟨c.now.date, c.now.minuteOfDay,
          if (activeSet s).holidays.contains c.now.date then .hol else c.now.date.weekday⟩ ∧
        t.stu = { s.stu with queue := s.stu.queue.map fun e => { e with deadline := 120000 } } ∧
        t.tlc = ⟨false, 0, none, none, none, none⟩ ∧ t.fen.counter = s.fen.counter ∧ t.fen.seats = s.fen.seats ∧
        t.fen.sharing = s.fen.sharing ∧
        (∀ k h, s.hire k = some h → (h.state = .frozen ∨ h.state = .due) → t.hire k = some h) ∧
        (∀ k h, s.hire k = some h → h.state = .paying →
          (∀ e ∈ s.stu.queue, ¬ (e.slot = k ∧ e.hire = h.number ∧ (e.state = .queued ∨ e.state = .handed))) →
          t.hire k = some { h with state := .due }
            ∧ t.clc.notices.get (hireKind k) = ⟨true, true, 8, false⟩) ∧
        (∀ k h, s.hire k = some h → (h.state = .suspended ∨ h.state = .running) →
          t.hire k = some (if h.source = .schedule then
            { h with pending := if t.tfs.scheduled = h.tariff then none else some t.tfs.scheduled } else h)) ∧
        (∀ k, s.hire k = none → t.hire k = none) ∧
        (∀ k e h, s.hire k = some h → h.state = .paying → e ∈ s.stu.queue → e.slot = k → e.hire = h.number →
          (e.state = .queued ∨ e.state = .handed) → t.hire k = some h) ∧
        (s.sau.shift = .closed → t.sau = s.sau) ∧
        (s.sau.shift ≠ .closed → t.sau = { s.sau with
          live := { s.sau.live with
            interruptions := min (s.sau.live.interruptions + 1) 65535
            interruptedSecs := min (s.sau.live.interruptedSecs +
              match s.smr.loss with
              | some l => c.now.seconds - l.seconds
              | none => 0) 4294967295 } }) ∧
        t.vbu.lagCount = s.vbu.lagCount ∧ t.vbu.lagLimit = s.vbu.lagLimit ∧ t.vbu.overwritten = 0 ∧
        t.sgu.roles = s.sgu.roles ∧ t.sgu.latch = s.sgu.latch ∧ t.sgu.text = [] ∧
        t.piu.depth = s.piu.depth ∧ t.piu.offset = s.piu.offset ∧ t.piu.floor = .driverPtt) ∧
    (∀ damage, (s.smr.closing = false ∨ s.smr.format ≠ .own ∨ s.smr.agrees = false ∨ damage ≠ .intact) →
      s.smr.restart = none → s.transit = ⟨[], [], [], []⟩ →
      exec (.supplyReturn damage stopped none) s = .next
        { State.reset with
          cku := c
          clc := { State.reset.clc with supplyDetail := some ⟨none, c.now⟩ }
          tfs := { State.reset.tfs with point := ⟨c.now.date, c.now.minuteOfDay, c.now.date.weekday⟩ }
          vbu := { State.reset.vbu with bufA := some ⟨1, c.now, ⟨none, none, none, none⟩⟩ }
          rbc := { State.reset.rbc with alrmActive := s.rbc.alrmActive }
          smr := { State.reset.smr with lastStart := ⟨.blank, ⟨none, c.now⟩⟩ }
          free := s.free, pending := s.pending }) ∧
    (∀ damage n written pins, ∃ t, exec (.supplyReturn damage stopped (some ⟨n, ⟨written, pins⟩⟩)) s = .next t ∧
      t.smr.supply = .down ∧ t.smr.pins = pins ∧ (written = true → t.smr.closing = true ∧ t.smr.agrees = true) ∧
      (written = true → 0 < n → t.smr.loss = some c.now) ∧
      (written = false → 0 < n → t.smr.closing = false) ∧
      ((s.smr.closing = false ∨ s.smr.format ≠ .own ∨ s.smr.agrees = false ∨ damage ≠ .intact) → 0 < n →
        t.smr.format = if n < (startSteps false ⟨none, c.now⟩).length then .zero else .own) ∧
      (n = 0 → damage = .intact → s.smr.closing = true → t.smr.closing = true ∧ t.smr.loss = s.smr.loss))

/-! ## Properties that every step keeps -/

/-- The properties of Safety hold in the machine right after reset. State.reset is the part after its first blank start
(log entry 8). -/
def Obligations.ResetHasTheInvariants : Prop :=
  SeatsHeld State.reset ∧ SlotReserved State.reset ∧ BillsBalance State.reset ∧ LoopsInEmptyCab State.reset ∧
    NoticesFollow State.reset ∧ OneEntryPerRole State.reset ∧ ViewRolesHeld State.reset ∧
    QueuesWithinCapacity State.reset

/-- Every step keeps the account of seats, hires, bills, summary slots and loops: seats are never oversold and hires
live in an open shift only (R34, R116, R117), exactly one summary slot is reserved while a shift runs (R125), each bill
balances (R37, R51, R56), loops and link tests run in an empty cab only (R167). -/
def Obligations.AccountsAreKept : Prop :=
  ∀ s t : State, SeatsHeld s → SlotReserved s → BillsBalance s → LoopsInEmptyCab s → step s = .next t →
    SeatsHeld t ∧ SlotReserved t ∧ BillsBalance t ∧ LoopsInEmptyCab t

/-- Every step keeps the notices truthful: a raised kind is enabled, and while the part runs the condition-holds flags
follow the display lag count, the authorization queue and the alert latch (R74, R94, R135, R186, R187), and nothing but the
notices holds ATTN released (R188, R194). -/
def Obligations.NoticesAreTruthful : Prop :=
  ∀ s t : State, NoticesFollow s → step s = .next t → NoticesFollow t

/-- Every step keeps the lists and roles well formed: one update entry for a role (R138), each view role on a buffer of
its own (R65), and every queue within its capacity (R182, R93, R106), a rear frame that has begun being short of its 67 bytes
(R156). -/
def Obligations.ListsAreKept : Prop :=
  ∀ s t : State, OneEntryPerRole s → ViewRolesHeld s → QueuesWithinCapacity s → step s = .next t →
    OneEntryPerRole t ∧ ViewRolesHeld t ∧ QueuesWithinCapacity t

end
end

