-- ==== Sys2Proof/Laws/State.lean ====
section
/-! SUPPORT. Each field of State after each update, so that no proof unfolds an update. -/

namespace Sys2Proof.Machine

@[simp] theorem State.setClc_clc (s : State) (b : Clc) : (s.setClc b).clc = b := rfl
@[simp] theorem State.setClc_miu (s : State) (b : Clc) : (s.setClc b).miu = s.miu := rfl
@[simp] theorem State.setClc_cku (s : State) (b : Clc) : (s.setClc b).cku = s.cku := rfl
@[simp] theorem State.setClc_tfs (s : State) (b : Clc) : (s.setClc b).tfs = s.tfs := rfl
@[simp] theorem State.setClc_fen (s : State) (b : Clc) : (s.setClc b).fen = s.fen := rfl
@[simp] theorem State.setClc_vbu (s : State) (b : Clc) : (s.setClc b).vbu = s.vbu := rfl
@[simp] theorem State.setClc_stu (s : State) (b : Clc) : (s.setClc b).stu = s.stu := rfl
@[simp] theorem State.setClc_tlc (s : State) (b : Clc) : (s.setClc b).tlc = s.tlc := rfl
@[simp] theorem State.setClc_sau (s : State) (b : Clc) : (s.setClc b).sau = s.sau := rfl
@[simp] theorem State.setClc_sgu (s : State) (b : Clc) : (s.setClc b).sgu = s.sgu := rfl
@[simp] theorem State.setClc_rbc (s : State) (b : Clc) : (s.setClc b).rbc = s.rbc := rfl
@[simp] theorem State.setClc_piu (s : State) (b : Clc) : (s.setClc b).piu = s.piu := rfl
@[simp] theorem State.setClc_smr (s : State) (b : Clc) : (s.setClc b).smr = s.smr := rfl
@[simp] theorem State.setClc_transit (s : State) (b : Clc) : (s.setClc b).transit = s.transit := rfl
@[simp] theorem State.setClc_free (s : State) (b : Clc) : (s.setClc b).free = s.free := rfl
@[simp] theorem State.setClc_pending (s : State) (b : Clc) : (s.setClc b).pending = s.pending := rfl
@[simp] theorem State.setMiu_clc (s : State) (b : Miu) : (s.setMiu b).clc = s.clc := rfl
@[simp] theorem State.setMiu_miu (s : State) (b : Miu) : (s.setMiu b).miu = b := rfl
@[simp] theorem State.setMiu_cku (s : State) (b : Miu) : (s.setMiu b).cku = s.cku := rfl
@[simp] theorem State.setMiu_tfs (s : State) (b : Miu) : (s.setMiu b).tfs = s.tfs := rfl
@[simp] theorem State.setMiu_fen (s : State) (b : Miu) : (s.setMiu b).fen = s.fen := rfl
@[simp] theorem State.setMiu_vbu (s : State) (b : Miu) : (s.setMiu b).vbu = s.vbu := rfl
@[simp] theorem State.setMiu_stu (s : State) (b : Miu) : (s.setMiu b).stu = s.stu := rfl
@[simp] theorem State.setMiu_tlc (s : State) (b : Miu) : (s.setMiu b).tlc = s.tlc := rfl
@[simp] theorem State.setMiu_sau (s : State) (b : Miu) : (s.setMiu b).sau = s.sau := rfl
@[simp] theorem State.setMiu_sgu (s : State) (b : Miu) : (s.setMiu b).sgu = s.sgu := rfl
@[simp] theorem State.setMiu_rbc (s : State) (b : Miu) : (s.setMiu b).rbc = s.rbc := rfl
@[simp] theorem State.setMiu_piu (s : State) (b : Miu) : (s.setMiu b).piu = s.piu := rfl
@[simp] theorem State.setMiu_smr (s : State) (b : Miu) : (s.setMiu b).smr = s.smr := rfl
@[simp] theorem State.setMiu_transit (s : State) (b : Miu) : (s.setMiu b).transit = s.transit := rfl
@[simp] theorem State.setMiu_free (s : State) (b : Miu) : (s.setMiu b).free = s.free := rfl
@[simp] theorem State.setMiu_pending (s : State) (b : Miu) : (s.setMiu b).pending = s.pending := rfl
@[simp] theorem State.setCku_clc (s : State) (b : Cku) : (s.setCku b).clc = s.clc := rfl
@[simp] theorem State.setCku_miu (s : State) (b : Cku) : (s.setCku b).miu = s.miu := rfl
@[simp] theorem State.setCku_cku (s : State) (b : Cku) : (s.setCku b).cku = b := rfl
@[simp] theorem State.setCku_tfs (s : State) (b : Cku) : (s.setCku b).tfs = s.tfs := rfl
@[simp] theorem State.setCku_fen (s : State) (b : Cku) : (s.setCku b).fen = s.fen := rfl
@[simp] theorem State.setCku_vbu (s : State) (b : Cku) : (s.setCku b).vbu = s.vbu := rfl
@[simp] theorem State.setCku_stu (s : State) (b : Cku) : (s.setCku b).stu = s.stu := rfl
@[simp] theorem State.setCku_tlc (s : State) (b : Cku) : (s.setCku b).tlc = s.tlc := rfl
@[simp] theorem State.setCku_sau (s : State) (b : Cku) : (s.setCku b).sau = s.sau := rfl
@[simp] theorem State.setCku_sgu (s : State) (b : Cku) : (s.setCku b).sgu = s.sgu := rfl
@[simp] theorem State.setCku_rbc (s : State) (b : Cku) : (s.setCku b).rbc = s.rbc := rfl
@[simp] theorem State.setCku_piu (s : State) (b : Cku) : (s.setCku b).piu = s.piu := rfl
@[simp] theorem State.setCku_smr (s : State) (b : Cku) : (s.setCku b).smr = s.smr := rfl
@[simp] theorem State.setCku_transit (s : State) (b : Cku) : (s.setCku b).transit = s.transit := rfl
@[simp] theorem State.setCku_free (s : State) (b : Cku) : (s.setCku b).free = s.free := rfl
@[simp] theorem State.setCku_pending (s : State) (b : Cku) : (s.setCku b).pending = s.pending := rfl
@[simp] theorem State.setTfs_clc (s : State) (b : Tfs) : (s.setTfs b).clc = s.clc := rfl
@[simp] theorem State.setTfs_miu (s : State) (b : Tfs) : (s.setTfs b).miu = s.miu := rfl
@[simp] theorem State.setTfs_cku (s : State) (b : Tfs) : (s.setTfs b).cku = s.cku := rfl
@[simp] theorem State.setTfs_tfs (s : State) (b : Tfs) : (s.setTfs b).tfs = b := rfl
@[simp] theorem State.setTfs_fen (s : State) (b : Tfs) : (s.setTfs b).fen = s.fen := rfl
@[simp] theorem State.setTfs_vbu (s : State) (b : Tfs) : (s.setTfs b).vbu = s.vbu := rfl
@[simp] theorem State.setTfs_stu (s : State) (b : Tfs) : (s.setTfs b).stu = s.stu := rfl
@[simp] theorem State.setTfs_tlc (s : State) (b : Tfs) : (s.setTfs b).tlc = s.tlc := rfl
@[simp] theorem State.setTfs_sau (s : State) (b : Tfs) : (s.setTfs b).sau = s.sau := rfl
@[simp] theorem State.setTfs_sgu (s : State) (b : Tfs) : (s.setTfs b).sgu = s.sgu := rfl
@[simp] theorem State.setTfs_rbc (s : State) (b : Tfs) : (s.setTfs b).rbc = s.rbc := rfl
@[simp] theorem State.setTfs_piu (s : State) (b : Tfs) : (s.setTfs b).piu = s.piu := rfl
@[simp] theorem State.setTfs_smr (s : State) (b : Tfs) : (s.setTfs b).smr = s.smr := rfl
@[simp] theorem State.setTfs_transit (s : State) (b : Tfs) : (s.setTfs b).transit = s.transit := rfl
@[simp] theorem State.setTfs_free (s : State) (b : Tfs) : (s.setTfs b).free = s.free := rfl
@[simp] theorem State.setTfs_pending (s : State) (b : Tfs) : (s.setTfs b).pending = s.pending := rfl
@[simp] theorem State.setFen_clc (s : State) (b : Fen) : (s.setFen b).clc = s.clc := rfl
@[simp] theorem State.setFen_miu (s : State) (b : Fen) : (s.setFen b).miu = s.miu := rfl
@[simp] theorem State.setFen_cku (s : State) (b : Fen) : (s.setFen b).cku = s.cku := rfl
@[simp] theorem State.setFen_tfs (s : State) (b : Fen) : (s.setFen b).tfs = s.tfs := rfl
@[simp] theorem State.setFen_fen (s : State) (b : Fen) : (s.setFen b).fen = b := rfl
@[simp] theorem State.setFen_vbu (s : State) (b : Fen) : (s.setFen b).vbu = s.vbu := rfl
@[simp] theorem State.setFen_stu (s : State) (b : Fen) : (s.setFen b).stu = s.stu := rfl
@[simp] theorem State.setFen_tlc (s : State) (b : Fen) : (s.setFen b).tlc = s.tlc := rfl
@[simp] theorem State.setFen_sau (s : State) (b : Fen) : (s.setFen b).sau = s.sau := rfl
@[simp] theorem State.setFen_sgu (s : State) (b : Fen) : (s.setFen b).sgu = s.sgu := rfl
@[simp] theorem State.setFen_rbc (s : State) (b : Fen) : (s.setFen b).rbc = s.rbc := rfl
@[simp] theorem State.setFen_piu (s : State) (b : Fen) : (s.setFen b).piu = s.piu := rfl
@[simp] theorem State.setFen_smr (s : State) (b : Fen) : (s.setFen b).smr = s.smr := rfl
@[simp] theorem State.setFen_transit (s : State) (b : Fen) : (s.setFen b).transit = s.transit := rfl
@[simp] theorem State.setFen_free (s : State) (b : Fen) : (s.setFen b).free = s.free := rfl
@[simp] theorem State.setFen_pending (s : State) (b : Fen) : (s.setFen b).pending = s.pending := rfl
@[simp] theorem State.setVbu_clc (s : State) (b : Vbu) : (s.setVbu b).clc = s.clc := rfl
@[simp] theorem State.setVbu_miu (s : State) (b : Vbu) : (s.setVbu b).miu = s.miu := rfl
@[simp] theorem State.setVbu_cku (s : State) (b : Vbu) : (s.setVbu b).cku = s.cku := rfl
@[simp] theorem State.setVbu_tfs (s : State) (b : Vbu) : (s.setVbu b).tfs = s.tfs := rfl
@[simp] theorem State.setVbu_fen (s : State) (b : Vbu) : (s.setVbu b).fen = s.fen := rfl
@[simp] theorem State.setVbu_vbu (s : State) (b : Vbu) : (s.setVbu b).vbu = b := rfl
@[simp] theorem State.setVbu_stu (s : State) (b : Vbu) : (s.setVbu b).stu = s.stu := rfl
@[simp] theorem State.setVbu_tlc (s : State) (b : Vbu) : (s.setVbu b).tlc = s.tlc := rfl
@[simp] theorem State.setVbu_sau (s : State) (b : Vbu) : (s.setVbu b).sau = s.sau := rfl
@[simp] theorem State.setVbu_sgu (s : State) (b : Vbu) : (s.setVbu b).sgu = s.sgu := rfl
@[simp] theorem State.setVbu_rbc (s : State) (b : Vbu) : (s.setVbu b).rbc = s.rbc := rfl
@[simp] theorem State.setVbu_piu (s : State) (b : Vbu) : (s.setVbu b).piu = s.piu := rfl
@[simp] theorem State.setVbu_smr (s : State) (b : Vbu) : (s.setVbu b).smr = s.smr := rfl
@[simp] theorem State.setVbu_transit (s : State) (b : Vbu) : (s.setVbu b).transit = s.transit := rfl
@[simp] theorem State.setVbu_free (s : State) (b : Vbu) : (s.setVbu b).free = s.free := rfl
@[simp] theorem State.setVbu_pending (s : State) (b : Vbu) : (s.setVbu b).pending = s.pending := rfl
@[simp] theorem State.setStu_clc (s : State) (b : Stu) : (s.setStu b).clc = s.clc := rfl
@[simp] theorem State.setStu_miu (s : State) (b : Stu) : (s.setStu b).miu = s.miu := rfl
@[simp] theorem State.setStu_cku (s : State) (b : Stu) : (s.setStu b).cku = s.cku := rfl
@[simp] theorem State.setStu_tfs (s : State) (b : Stu) : (s.setStu b).tfs = s.tfs := rfl
@[simp] theorem State.setStu_fen (s : State) (b : Stu) : (s.setStu b).fen = s.fen := rfl
@[simp] theorem State.setStu_vbu (s : State) (b : Stu) : (s.setStu b).vbu = s.vbu := rfl
@[simp] theorem State.setStu_stu (s : State) (b : Stu) : (s.setStu b).stu = b := rfl
@[simp] theorem State.setStu_tlc (s : State) (b : Stu) : (s.setStu b).tlc = s.tlc := rfl
@[simp] theorem State.setStu_sau (s : State) (b : Stu) : (s.setStu b).sau = s.sau := rfl
@[simp] theorem State.setStu_sgu (s : State) (b : Stu) : (s.setStu b).sgu = s.sgu := rfl
@[simp] theorem State.setStu_rbc (s : State) (b : Stu) : (s.setStu b).rbc = s.rbc := rfl
@[simp] theorem State.setStu_piu (s : State) (b : Stu) : (s.setStu b).piu = s.piu := rfl
@[simp] theorem State.setStu_smr (s : State) (b : Stu) : (s.setStu b).smr = s.smr := rfl
@[simp] theorem State.setStu_transit (s : State) (b : Stu) : (s.setStu b).transit = s.transit := rfl
@[simp] theorem State.setStu_free (s : State) (b : Stu) : (s.setStu b).free = s.free := rfl
@[simp] theorem State.setStu_pending (s : State) (b : Stu) : (s.setStu b).pending = s.pending := rfl
@[simp] theorem State.setTlc_clc (s : State) (b : Tlc) : (s.setTlc b).clc = s.clc := rfl
@[simp] theorem State.setTlc_miu (s : State) (b : Tlc) : (s.setTlc b).miu = s.miu := rfl
@[simp] theorem State.setTlc_cku (s : State) (b : Tlc) : (s.setTlc b).cku = s.cku := rfl
@[simp] theorem State.setTlc_tfs (s : State) (b : Tlc) : (s.setTlc b).tfs = s.tfs := rfl
@[simp] theorem State.setTlc_fen (s : State) (b : Tlc) : (s.setTlc b).fen = s.fen := rfl
@[simp] theorem State.setTlc_vbu (s : State) (b : Tlc) : (s.setTlc b).vbu = s.vbu := rfl
@[simp] theorem State.setTlc_stu (s : State) (b : Tlc) : (s.setTlc b).stu = s.stu := rfl
@[simp] theorem State.setTlc_tlc (s : State) (b : Tlc) : (s.setTlc b).tlc = b := rfl
@[simp] theorem State.setTlc_sau (s : State) (b : Tlc) : (s.setTlc b).sau = s.sau := rfl
@[simp] theorem State.setTlc_sgu (s : State) (b : Tlc) : (s.setTlc b).sgu = s.sgu := rfl
@[simp] theorem State.setTlc_rbc (s : State) (b : Tlc) : (s.setTlc b).rbc = s.rbc := rfl
@[simp] theorem State.setTlc_piu (s : State) (b : Tlc) : (s.setTlc b).piu = s.piu := rfl
@[simp] theorem State.setTlc_smr (s : State) (b : Tlc) : (s.setTlc b).smr = s.smr := rfl
@[simp] theorem State.setTlc_transit (s : State) (b : Tlc) : (s.setTlc b).transit = s.transit := rfl
@[simp] theorem State.setTlc_free (s : State) (b : Tlc) : (s.setTlc b).free = s.free := rfl
@[simp] theorem State.setTlc_pending (s : State) (b : Tlc) : (s.setTlc b).pending = s.pending := rfl
@[simp] theorem State.setSau_clc (s : State) (b : Sau) : (s.setSau b).clc = s.clc := rfl
@[simp] theorem State.setSau_miu (s : State) (b : Sau) : (s.setSau b).miu = s.miu := rfl
@[simp] theorem State.setSau_cku (s : State) (b : Sau) : (s.setSau b).cku = s.cku := rfl
@[simp] theorem State.setSau_tfs (s : State) (b : Sau) : (s.setSau b).tfs = s.tfs := rfl
@[simp] theorem State.setSau_fen (s : State) (b : Sau) : (s.setSau b).fen = s.fen := rfl
@[simp] theorem State.setSau_vbu (s : State) (b : Sau) : (s.setSau b).vbu = s.vbu := rfl
@[simp] theorem State.setSau_stu (s : State) (b : Sau) : (s.setSau b).stu = s.stu := rfl
@[simp] theorem State.setSau_tlc (s : State) (b : Sau) : (s.setSau b).tlc = s.tlc := rfl
@[simp] theorem State.setSau_sau (s : State) (b : Sau) : (s.setSau b).sau = b := rfl
@[simp] theorem State.setSau_sgu (s : State) (b : Sau) : (s.setSau b).sgu = s.sgu := rfl
@[simp] theorem State.setSau_rbc (s : State) (b : Sau) : (s.setSau b).rbc = s.rbc := rfl
@[simp] theorem State.setSau_piu (s : State) (b : Sau) : (s.setSau b).piu = s.piu := rfl
@[simp] theorem State.setSau_smr (s : State) (b : Sau) : (s.setSau b).smr = s.smr := rfl
@[simp] theorem State.setSau_transit (s : State) (b : Sau) : (s.setSau b).transit = s.transit := rfl
@[simp] theorem State.setSau_free (s : State) (b : Sau) : (s.setSau b).free = s.free := rfl
@[simp] theorem State.setSau_pending (s : State) (b : Sau) : (s.setSau b).pending = s.pending := rfl
@[simp] theorem State.setSgu_clc (s : State) (b : Sgu) : (s.setSgu b).clc = s.clc := rfl
@[simp] theorem State.setSgu_miu (s : State) (b : Sgu) : (s.setSgu b).miu = s.miu := rfl
@[simp] theorem State.setSgu_cku (s : State) (b : Sgu) : (s.setSgu b).cku = s.cku := rfl
@[simp] theorem State.setSgu_tfs (s : State) (b : Sgu) : (s.setSgu b).tfs = s.tfs := rfl
@[simp] theorem State.setSgu_fen (s : State) (b : Sgu) : (s.setSgu b).fen = s.fen := rfl
@[simp] theorem State.setSgu_vbu (s : State) (b : Sgu) : (s.setSgu b).vbu = s.vbu := rfl
@[simp] theorem State.setSgu_stu (s : State) (b : Sgu) : (s.setSgu b).stu = s.stu := rfl
@[simp] theorem State.setSgu_tlc (s : State) (b : Sgu) : (s.setSgu b).tlc = s.tlc := rfl
@[simp] theorem State.setSgu_sau (s : State) (b : Sgu) : (s.setSgu b).sau = s.sau := rfl
@[simp] theorem State.setSgu_sgu (s : State) (b : Sgu) : (s.setSgu b).sgu = b := rfl
@[simp] theorem State.setSgu_rbc (s : State) (b : Sgu) : (s.setSgu b).rbc = s.rbc := rfl
@[simp] theorem State.setSgu_piu (s : State) (b : Sgu) : (s.setSgu b).piu = s.piu := rfl
@[simp] theorem State.setSgu_smr (s : State) (b : Sgu) : (s.setSgu b).smr = s.smr := rfl
@[simp] theorem State.setSgu_transit (s : State) (b : Sgu) : (s.setSgu b).transit = s.transit := rfl
@[simp] theorem State.setSgu_free (s : State) (b : Sgu) : (s.setSgu b).free = s.free := rfl
@[simp] theorem State.setSgu_pending (s : State) (b : Sgu) : (s.setSgu b).pending = s.pending := rfl
@[simp] theorem State.setRbc_clc (s : State) (b : Rbc) : (s.setRbc b).clc = s.clc := rfl
@[simp] theorem State.setRbc_miu (s : State) (b : Rbc) : (s.setRbc b).miu = s.miu := rfl
@[simp] theorem State.setRbc_cku (s : State) (b : Rbc) : (s.setRbc b).cku = s.cku := rfl
@[simp] theorem State.setRbc_tfs (s : State) (b : Rbc) : (s.setRbc b).tfs = s.tfs := rfl
@[simp] theorem State.setRbc_fen (s : State) (b : Rbc) : (s.setRbc b).fen = s.fen := rfl
@[simp] theorem State.setRbc_vbu (s : State) (b : Rbc) : (s.setRbc b).vbu = s.vbu := rfl
@[simp] theorem State.setRbc_stu (s : State) (b : Rbc) : (s.setRbc b).stu = s.stu := rfl
@[simp] theorem State.setRbc_tlc (s : State) (b : Rbc) : (s.setRbc b).tlc = s.tlc := rfl
@[simp] theorem State.setRbc_sau (s : State) (b : Rbc) : (s.setRbc b).sau = s.sau := rfl
@[simp] theorem State.setRbc_sgu (s : State) (b : Rbc) : (s.setRbc b).sgu = s.sgu := rfl
@[simp] theorem State.setRbc_rbc (s : State) (b : Rbc) : (s.setRbc b).rbc = b := rfl
@[simp] theorem State.setRbc_piu (s : State) (b : Rbc) : (s.setRbc b).piu = s.piu := rfl
@[simp] theorem State.setRbc_smr (s : State) (b : Rbc) : (s.setRbc b).smr = s.smr := rfl
@[simp] theorem State.setRbc_transit (s : State) (b : Rbc) : (s.setRbc b).transit = s.transit := rfl
@[simp] theorem State.setRbc_free (s : State) (b : Rbc) : (s.setRbc b).free = s.free := rfl
@[simp] theorem State.setRbc_pending (s : State) (b : Rbc) : (s.setRbc b).pending = s.pending := rfl
@[simp] theorem State.setPiu_clc (s : State) (b : Piu) : (s.setPiu b).clc = s.clc := rfl
@[simp] theorem State.setPiu_miu (s : State) (b : Piu) : (s.setPiu b).miu = s.miu := rfl
@[simp] theorem State.setPiu_cku (s : State) (b : Piu) : (s.setPiu b).cku = s.cku := rfl
@[simp] theorem State.setPiu_tfs (s : State) (b : Piu) : (s.setPiu b).tfs = s.tfs := rfl
@[simp] theorem State.setPiu_fen (s : State) (b : Piu) : (s.setPiu b).fen = s.fen := rfl
@[simp] theorem State.setPiu_vbu (s : State) (b : Piu) : (s.setPiu b).vbu = s.vbu := rfl
@[simp] theorem State.setPiu_stu (s : State) (b : Piu) : (s.setPiu b).stu = s.stu := rfl
@[simp] theorem State.setPiu_tlc (s : State) (b : Piu) : (s.setPiu b).tlc = s.tlc := rfl
@[simp] theorem State.setPiu_sau (s : State) (b : Piu) : (s.setPiu b).sau = s.sau := rfl
@[simp] theorem State.setPiu_sgu (s : State) (b : Piu) : (s.setPiu b).sgu = s.sgu := rfl
@[simp] theorem State.setPiu_rbc (s : State) (b : Piu) : (s.setPiu b).rbc = s.rbc := rfl
@[simp] theorem State.setPiu_piu (s : State) (b : Piu) : (s.setPiu b).piu = b := rfl
@[simp] theorem State.setPiu_smr (s : State) (b : Piu) : (s.setPiu b).smr = s.smr := rfl
@[simp] theorem State.setPiu_transit (s : State) (b : Piu) : (s.setPiu b).transit = s.transit := rfl
@[simp] theorem State.setPiu_free (s : State) (b : Piu) : (s.setPiu b).free = s.free := rfl
@[simp] theorem State.setPiu_pending (s : State) (b : Piu) : (s.setPiu b).pending = s.pending := rfl
@[simp] theorem State.setSmr_clc (s : State) (b : Smr) : (s.setSmr b).clc = s.clc := rfl
@[simp] theorem State.setSmr_miu (s : State) (b : Smr) : (s.setSmr b).miu = s.miu := rfl
@[simp] theorem State.setSmr_cku (s : State) (b : Smr) : (s.setSmr b).cku = s.cku := rfl
@[simp] theorem State.setSmr_tfs (s : State) (b : Smr) : (s.setSmr b).tfs = s.tfs := rfl
@[simp] theorem State.setSmr_fen (s : State) (b : Smr) : (s.setSmr b).fen = s.fen := rfl
@[simp] theorem State.setSmr_vbu (s : State) (b : Smr) : (s.setSmr b).vbu = s.vbu := rfl
@[simp] theorem State.setSmr_stu (s : State) (b : Smr) : (s.setSmr b).stu = s.stu := rfl
@[simp] theorem State.setSmr_tlc (s : State) (b : Smr) : (s.setSmr b).tlc = s.tlc := rfl
@[simp] theorem State.setSmr_sau (s : State) (b : Smr) : (s.setSmr b).sau = s.sau := rfl
@[simp] theorem State.setSmr_sgu (s : State) (b : Smr) : (s.setSmr b).sgu = s.sgu := rfl
@[simp] theorem State.setSmr_rbc (s : State) (b : Smr) : (s.setSmr b).rbc = s.rbc := rfl
@[simp] theorem State.setSmr_piu (s : State) (b : Smr) : (s.setSmr b).piu = s.piu := rfl
@[simp] theorem State.setSmr_smr (s : State) (b : Smr) : (s.setSmr b).smr = b := rfl
@[simp] theorem State.setSmr_transit (s : State) (b : Smr) : (s.setSmr b).transit = s.transit := rfl
@[simp] theorem State.setSmr_free (s : State) (b : Smr) : (s.setSmr b).free = s.free := rfl
@[simp] theorem State.setSmr_pending (s : State) (b : Smr) : (s.setSmr b).pending = s.pending := rfl
@[simp] theorem State.setTransit_clc (s : State) (b : Transit) : (s.setTransit b).clc = s.clc := rfl
@[simp] theorem State.setTransit_miu (s : State) (b : Transit) : (s.setTransit b).miu = s.miu := rfl
@[simp] theorem State.setTransit_cku (s : State) (b : Transit) : (s.setTransit b).cku = s.cku := rfl
@[simp] theorem State.setTransit_tfs (s : State) (b : Transit) : (s.setTransit b).tfs = s.tfs := rfl
@[simp] theorem State.setTransit_fen (s : State) (b : Transit) : (s.setTransit b).fen = s.fen := rfl
@[simp] theorem State.setTransit_vbu (s : State) (b : Transit) : (s.setTransit b).vbu = s.vbu := rfl
@[simp] theorem State.setTransit_stu (s : State) (b : Transit) : (s.setTransit b).stu = s.stu := rfl
@[simp] theorem State.setTransit_tlc (s : State) (b : Transit) : (s.setTransit b).tlc = s.tlc := rfl
@[simp] theorem State.setTransit_sau (s : State) (b : Transit) : (s.setTransit b).sau = s.sau := rfl
@[simp] theorem State.setTransit_sgu (s : State) (b : Transit) : (s.setTransit b).sgu = s.sgu := rfl
@[simp] theorem State.setTransit_rbc (s : State) (b : Transit) : (s.setTransit b).rbc = s.rbc := rfl
@[simp] theorem State.setTransit_piu (s : State) (b : Transit) : (s.setTransit b).piu = s.piu := rfl
@[simp] theorem State.setTransit_smr (s : State) (b : Transit) : (s.setTransit b).smr = s.smr := rfl
@[simp] theorem State.setTransit_transit (s : State) (b : Transit) : (s.setTransit b).transit = b := rfl
@[simp] theorem State.setTransit_free (s : State) (b : Transit) : (s.setTransit b).free = s.free := rfl
@[simp] theorem State.setTransit_pending (s : State) (b : Transit) : (s.setTransit b).pending = s.pending := rfl
@[simp] theorem State.setFree_clc (s : State) (b : Nat) : (s.setFree b).clc = s.clc := rfl
@[simp] theorem State.setFree_miu (s : State) (b : Nat) : (s.setFree b).miu = s.miu := rfl
@[simp] theorem State.setFree_cku (s : State) (b : Nat) : (s.setFree b).cku = s.cku := rfl
@[simp] theorem State.setFree_tfs (s : State) (b : Nat) : (s.setFree b).tfs = s.tfs := rfl
@[simp] theorem State.setFree_fen (s : State) (b : Nat) : (s.setFree b).fen = s.fen := rfl
@[simp] theorem State.setFree_vbu (s : State) (b : Nat) : (s.setFree b).vbu = s.vbu := rfl
@[simp] theorem State.setFree_stu (s : State) (b : Nat) : (s.setFree b).stu = s.stu := rfl
@[simp] theorem State.setFree_tlc (s : State) (b : Nat) : (s.setFree b).tlc = s.tlc := rfl
@[simp] theorem State.setFree_sau (s : State) (b : Nat) : (s.setFree b).sau = s.sau := rfl
@[simp] theorem State.setFree_sgu (s : State) (b : Nat) : (s.setFree b).sgu = s.sgu := rfl
@[simp] theorem State.setFree_rbc (s : State) (b : Nat) : (s.setFree b).rbc = s.rbc := rfl
@[simp] theorem State.setFree_piu (s : State) (b : Nat) : (s.setFree b).piu = s.piu := rfl
@[simp] theorem State.setFree_smr (s : State) (b : Nat) : (s.setFree b).smr = s.smr := rfl
@[simp] theorem State.setFree_transit (s : State) (b : Nat) : (s.setFree b).transit = s.transit := rfl
@[simp] theorem State.setFree_free (s : State) (b : Nat) : (s.setFree b).free = b := rfl
@[simp] theorem State.setFree_pending (s : State) (b : Nat) : (s.setFree b).pending = s.pending := rfl
@[simp] theorem State.setPending_clc (s : State) (b : List Instr) : (s.setPending b).clc = s.clc := rfl
@[simp] theorem State.setPending_miu (s : State) (b : List Instr) : (s.setPending b).miu = s.miu := rfl
@[simp] theorem State.setPending_cku (s : State) (b : List Instr) : (s.setPending b).cku = s.cku := rfl
@[simp] theorem State.setPending_tfs (s : State) (b : List Instr) : (s.setPending b).tfs = s.tfs := rfl
@[simp] theorem State.setPending_fen (s : State) (b : List Instr) : (s.setPending b).fen = s.fen := rfl
@[simp] theorem State.setPending_vbu (s : State) (b : List Instr) : (s.setPending b).vbu = s.vbu := rfl
@[simp] theorem State.setPending_stu (s : State) (b : List Instr) : (s.setPending b).stu = s.stu := rfl
@[simp] theorem State.setPending_tlc (s : State) (b : List Instr) : (s.setPending b).tlc = s.tlc := rfl
@[simp] theorem State.setPending_sau (s : State) (b : List Instr) : (s.setPending b).sau = s.sau := rfl
@[simp] theorem State.setPending_sgu (s : State) (b : List Instr) : (s.setPending b).sgu = s.sgu := rfl
@[simp] theorem State.setPending_rbc (s : State) (b : List Instr) : (s.setPending b).rbc = s.rbc := rfl
@[simp] theorem State.setPending_piu (s : State) (b : List Instr) : (s.setPending b).piu = s.piu := rfl
@[simp] theorem State.setPending_smr (s : State) (b : List Instr) : (s.setPending b).smr = s.smr := rfl
@[simp] theorem State.setPending_transit (s : State) (b : List Instr) : (s.setPending b).transit = s.transit := rfl
@[simp] theorem State.setPending_free (s : State) (b : List Instr) : (s.setPending b).free = s.free := rfl
@[simp] theorem State.setPending_pending (s : State) (b : List Instr) : (s.setPending b).pending = b := rfl

/-! A second write of a block replaces the first. -/

@[simp] theorem State.setClc_setClc (s : State) (a b : Clc) : (s.setClc a).setClc b = s.setClc b := rfl
@[simp] theorem State.setMiu_setMiu (s : State) (a b : Miu) : (s.setMiu a).setMiu b = s.setMiu b := rfl
@[simp] theorem State.setCku_setCku (s : State) (a b : Cku) : (s.setCku a).setCku b = s.setCku b := rfl
@[simp] theorem State.setTfs_setTfs (s : State) (a b : Tfs) : (s.setTfs a).setTfs b = s.setTfs b := rfl
@[simp] theorem State.setFen_setFen (s : State) (a b : Fen) : (s.setFen a).setFen b = s.setFen b := rfl
@[simp] theorem State.setVbu_setVbu (s : State) (a b : Vbu) : (s.setVbu a).setVbu b = s.setVbu b := rfl
@[simp] theorem State.setStu_setStu (s : State) (a b : Stu) : (s.setStu a).setStu b = s.setStu b := rfl
@[simp] theorem State.setTlc_setTlc (s : State) (a b : Tlc) : (s.setTlc a).setTlc b = s.setTlc b := rfl
@[simp] theorem State.setSau_setSau (s : State) (a b : Sau) : (s.setSau a).setSau b = s.setSau b := rfl
@[simp] theorem State.setSgu_setSgu (s : State) (a b : Sgu) : (s.setSgu a).setSgu b = s.setSgu b := rfl
@[simp] theorem State.setRbc_setRbc (s : State) (a b : Rbc) : (s.setRbc a).setRbc b = s.setRbc b := rfl
@[simp] theorem State.setPiu_setPiu (s : State) (a b : Piu) : (s.setPiu a).setPiu b = s.setPiu b := rfl
@[simp] theorem State.setSmr_setSmr (s : State) (a b : Smr) : (s.setSmr a).setSmr b = s.setSmr b := rfl
@[simp] theorem State.setTransit_setTransit (s : State) (a b : Transit) : (s.setTransit a).setTransit b = s.setTransit b := rfl
@[simp] theorem State.setFree_setFree (s : State) (a b : Nat) : (s.setFree a).setFree b = s.setFree b := rfl
@[simp] theorem State.setPending_setPending (s : State) (a b : List Instr) : (s.setPending a).setPending b = s.setPending b := rfl

end Sys2Proof.Machine
end

