-- ==== Sys2Proof/Laws/Ops.lean ====
section
/-! SUPPORT. What the shared operations leave unchanged: one lemma for each block they do not touch. -/

namespace Sys2Proof.Machine


/-! ### State.setNotice -/

@[simp] theorem State.setNotice_miu (s : State) (k : NoticeKind) (v : Notice) : (s.setNotice k v).miu = s.miu := rfl
@[simp] theorem State.setNotice_cku (s : State) (k : NoticeKind) (v : Notice) : (s.setNotice k v).cku = s.cku := rfl
@[simp] theorem State.setNotice_tfs (s : State) (k : NoticeKind) (v : Notice) : (s.setNotice k v).tfs = s.tfs := rfl
@[simp] theorem State.setNotice_fen (s : State) (k : NoticeKind) (v : Notice) : (s.setNotice k v).fen = s.fen := rfl
@[simp] theorem State.setNotice_vbu (s : State) (k : NoticeKind) (v : Notice) : (s.setNotice k v).vbu = s.vbu := rfl
@[simp] theorem State.setNotice_stu (s : State) (k : NoticeKind) (v : Notice) : (s.setNotice k v).stu = s.stu := rfl
@[simp] theorem State.setNotice_tlc (s : State) (k : NoticeKind) (v : Notice) : (s.setNotice k v).tlc = s.tlc := rfl
@[simp] theorem State.setNotice_sau (s : State) (k : NoticeKind) (v : Notice) : (s.setNotice k v).sau = s.sau := rfl
@[simp] theorem State.setNotice_sgu (s : State) (k : NoticeKind) (v : Notice) : (s.setNotice k v).sgu = s.sgu := rfl
@[simp] theorem State.setNotice_rbc (s : State) (k : NoticeKind) (v : Notice) : (s.setNotice k v).rbc = s.rbc := rfl
@[simp] theorem State.setNotice_piu (s : State) (k : NoticeKind) (v : Notice) : (s.setNotice k v).piu = s.piu := rfl
@[simp] theorem State.setNotice_smr (s : State) (k : NoticeKind) (v : Notice) : (s.setNotice k v).smr = s.smr := rfl
@[simp] theorem State.setNotice_transit (s : State) (k : NoticeKind) (v : Notice) : (s.setNotice k v).transit = s.transit := rfl
@[simp] theorem State.setNotice_free (s : State) (k : NoticeKind) (v : Notice) : (s.setNotice k v).free = s.free := rfl
@[simp] theorem State.setNotice_pending (s : State) (k : NoticeKind) (v : Notice) : (s.setNotice k v).pending = s.pending := rfl

/-! ### State.setAnswer -/

@[simp] theorem State.setAnswer_miu (s : State) (a : Option Answer) : (s.setAnswer a).miu = s.miu := rfl
@[simp] theorem State.setAnswer_cku (s : State) (a : Option Answer) : (s.setAnswer a).cku = s.cku := rfl
@[simp] theorem State.setAnswer_tfs (s : State) (a : Option Answer) : (s.setAnswer a).tfs = s.tfs := rfl
@[simp] theorem State.setAnswer_fen (s : State) (a : Option Answer) : (s.setAnswer a).fen = s.fen := rfl
@[simp] theorem State.setAnswer_vbu (s : State) (a : Option Answer) : (s.setAnswer a).vbu = s.vbu := rfl
@[simp] theorem State.setAnswer_stu (s : State) (a : Option Answer) : (s.setAnswer a).stu = s.stu := rfl
@[simp] theorem State.setAnswer_tlc (s : State) (a : Option Answer) : (s.setAnswer a).tlc = s.tlc := rfl
@[simp] theorem State.setAnswer_sau (s : State) (a : Option Answer) : (s.setAnswer a).sau = s.sau := rfl
@[simp] theorem State.setAnswer_sgu (s : State) (a : Option Answer) : (s.setAnswer a).sgu = s.sgu := rfl
@[simp] theorem State.setAnswer_rbc (s : State) (a : Option Answer) : (s.setAnswer a).rbc = s.rbc := rfl
@[simp] theorem State.setAnswer_piu (s : State) (a : Option Answer) : (s.setAnswer a).piu = s.piu := rfl
@[simp] theorem State.setAnswer_smr (s : State) (a : Option Answer) : (s.setAnswer a).smr = s.smr := rfl
@[simp] theorem State.setAnswer_transit (s : State) (a : Option Answer) : (s.setAnswer a).transit = s.transit := rfl
@[simp] theorem State.setAnswer_free (s : State) (a : Option Answer) : (s.setAnswer a).free = s.free := rfl
@[simp] theorem State.setAnswer_pending (s : State) (a : Option Answer) : (s.setAnswer a).pending = s.pending := rfl

/-! ### raise -/

@[simp] theorem raise_miu (r : Reason) (s : State) : (raise r s).miu = s.miu := rfl
@[simp] theorem raise_cku (r : Reason) (s : State) : (raise r s).cku = s.cku := rfl
@[simp] theorem raise_tfs (r : Reason) (s : State) : (raise r s).tfs = s.tfs := rfl
@[simp] theorem raise_fen (r : Reason) (s : State) : (raise r s).fen = s.fen := rfl
@[simp] theorem raise_vbu (r : Reason) (s : State) : (raise r s).vbu = s.vbu := rfl
@[simp] theorem raise_stu (r : Reason) (s : State) : (raise r s).stu = s.stu := rfl
@[simp] theorem raise_tlc (r : Reason) (s : State) : (raise r s).tlc = s.tlc := rfl
@[simp] theorem raise_sau (r : Reason) (s : State) : (raise r s).sau = s.sau := rfl
@[simp] theorem raise_sgu (r : Reason) (s : State) : (raise r s).sgu = s.sgu := rfl
@[simp] theorem raise_rbc (r : Reason) (s : State) : (raise r s).rbc = s.rbc := rfl
@[simp] theorem raise_piu (r : Reason) (s : State) : (raise r s).piu = s.piu := rfl
@[simp] theorem raise_smr (r : Reason) (s : State) : (raise r s).smr = s.smr := rfl
@[simp] theorem raise_transit (r : Reason) (s : State) : (raise r s).transit = s.transit := rfl
@[simp] theorem raise_free (r : Reason) (s : State) : (raise r s).free = s.free := rfl
@[simp] theorem raise_pending (r : Reason) (s : State) : (raise r s).pending = s.pending := rfl

/-! ### condBegin -/

@[simp] theorem condBegin_miu (k : NoticeKind) (s : State) : (condBegin k s).miu = s.miu := rfl
@[simp] theorem condBegin_cku (k : NoticeKind) (s : State) : (condBegin k s).cku = s.cku := rfl
@[simp] theorem condBegin_tfs (k : NoticeKind) (s : State) : (condBegin k s).tfs = s.tfs := rfl
@[simp] theorem condBegin_fen (k : NoticeKind) (s : State) : (condBegin k s).fen = s.fen := rfl
@[simp] theorem condBegin_vbu (k : NoticeKind) (s : State) : (condBegin k s).vbu = s.vbu := rfl
@[simp] theorem condBegin_stu (k : NoticeKind) (s : State) : (condBegin k s).stu = s.stu := rfl
@[simp] theorem condBegin_tlc (k : NoticeKind) (s : State) : (condBegin k s).tlc = s.tlc := rfl
@[simp] theorem condBegin_sau (k : NoticeKind) (s : State) : (condBegin k s).sau = s.sau := rfl
@[simp] theorem condBegin_sgu (k : NoticeKind) (s : State) : (condBegin k s).sgu = s.sgu := rfl
@[simp] theorem condBegin_rbc (k : NoticeKind) (s : State) : (condBegin k s).rbc = s.rbc := rfl
@[simp] theorem condBegin_piu (k : NoticeKind) (s : State) : (condBegin k s).piu = s.piu := rfl
@[simp] theorem condBegin_smr (k : NoticeKind) (s : State) : (condBegin k s).smr = s.smr := rfl
@[simp] theorem condBegin_transit (k : NoticeKind) (s : State) : (condBegin k s).transit = s.transit := rfl
@[simp] theorem condBegin_free (k : NoticeKind) (s : State) : (condBegin k s).free = s.free := rfl
@[simp] theorem condBegin_pending (k : NoticeKind) (s : State) : (condBegin k s).pending = s.pending := rfl

/-! ### condEnd -/

@[simp] theorem condEnd_miu (k : NoticeKind) (s : State) : (condEnd k s).miu = s.miu := rfl
@[simp] theorem condEnd_cku (k : NoticeKind) (s : State) : (condEnd k s).cku = s.cku := rfl
@[simp] theorem condEnd_tfs (k : NoticeKind) (s : State) : (condEnd k s).tfs = s.tfs := rfl
@[simp] theorem condEnd_fen (k : NoticeKind) (s : State) : (condEnd k s).fen = s.fen := rfl
@[simp] theorem condEnd_vbu (k : NoticeKind) (s : State) : (condEnd k s).vbu = s.vbu := rfl
@[simp] theorem condEnd_stu (k : NoticeKind) (s : State) : (condEnd k s).stu = s.stu := rfl
@[simp] theorem condEnd_tlc (k : NoticeKind) (s : State) : (condEnd k s).tlc = s.tlc := rfl
@[simp] theorem condEnd_sau (k : NoticeKind) (s : State) : (condEnd k s).sau = s.sau := rfl
@[simp] theorem condEnd_sgu (k : NoticeKind) (s : State) : (condEnd k s).sgu = s.sgu := rfl
@[simp] theorem condEnd_rbc (k : NoticeKind) (s : State) : (condEnd k s).rbc = s.rbc := rfl
@[simp] theorem condEnd_piu (k : NoticeKind) (s : State) : (condEnd k s).piu = s.piu := rfl
@[simp] theorem condEnd_smr (k : NoticeKind) (s : State) : (condEnd k s).smr = s.smr := rfl
@[simp] theorem condEnd_transit (k : NoticeKind) (s : State) : (condEnd k s).transit = s.transit := rfl
@[simp] theorem condEnd_free (k : NoticeKind) (s : State) : (condEnd k s).free = s.free := rfl
@[simp] theorem condEnd_pending (k : NoticeKind) (s : State) : (condEnd k s).pending = s.pending := rfl

/-! ### State.setHire -/

@[simp] theorem State.setHire_clc (s : State) (k : Slot) (h : Option Hire) : (s.setHire k h).clc = s.clc := rfl
@[simp] theorem State.setHire_miu (s : State) (k : Slot) (h : Option Hire) : (s.setHire k h).miu = s.miu := rfl
@[simp] theorem State.setHire_cku (s : State) (k : Slot) (h : Option Hire) : (s.setHire k h).cku = s.cku := rfl
@[simp] theorem State.setHire_tfs (s : State) (k : Slot) (h : Option Hire) : (s.setHire k h).tfs = s.tfs := rfl
@[simp] theorem State.setHire_vbu (s : State) (k : Slot) (h : Option Hire) : (s.setHire k h).vbu = s.vbu := rfl
@[simp] theorem State.setHire_stu (s : State) (k : Slot) (h : Option Hire) : (s.setHire k h).stu = s.stu := rfl
@[simp] theorem State.setHire_tlc (s : State) (k : Slot) (h : Option Hire) : (s.setHire k h).tlc = s.tlc := rfl
@[simp] theorem State.setHire_sau (s : State) (k : Slot) (h : Option Hire) : (s.setHire k h).sau = s.sau := rfl
@[simp] theorem State.setHire_sgu (s : State) (k : Slot) (h : Option Hire) : (s.setHire k h).sgu = s.sgu := rfl
@[simp] theorem State.setHire_rbc (s : State) (k : Slot) (h : Option Hire) : (s.setHire k h).rbc = s.rbc := rfl
@[simp] theorem State.setHire_piu (s : State) (k : Slot) (h : Option Hire) : (s.setHire k h).piu = s.piu := rfl
@[simp] theorem State.setHire_smr (s : State) (k : Slot) (h : Option Hire) : (s.setHire k h).smr = s.smr := rfl
@[simp] theorem State.setHire_transit (s : State) (k : Slot) (h : Option Hire) : (s.setHire k h).transit = s.transit := rfl
@[simp] theorem State.setHire_free (s : State) (k : Slot) (h : Option Hire) : (s.setHire k h).free = s.free := rfl
@[simp] theorem State.setHire_pending (s : State) (k : Slot) (h : Option Hire) : (s.setHire k h).pending = s.pending := rfl

/-! ### compose -/

@[simp] theorem compose_clc (s : State) : (compose s).clc = s.clc := rfl
@[simp] theorem compose_miu (s : State) : (compose s).miu = s.miu := rfl
@[simp] theorem compose_cku (s : State) : (compose s).cku = s.cku := rfl
@[simp] theorem compose_tfs (s : State) : (compose s).tfs = s.tfs := rfl
@[simp] theorem compose_fen (s : State) : (compose s).fen = s.fen := rfl
@[simp] theorem compose_vbu (s : State) : (compose s).vbu = s.vbu := rfl
@[simp] theorem compose_stu (s : State) : (compose s).stu = s.stu := rfl
@[simp] theorem compose_tlc (s : State) : (compose s).tlc = s.tlc := rfl
@[simp] theorem compose_sau (s : State) : (compose s).sau = s.sau := rfl
@[simp] theorem compose_sgu (s : State) : (compose s).sgu = s.sgu := rfl
@[simp] theorem compose_rbc (s : State) : (compose s).rbc = s.rbc := rfl
@[simp] theorem compose_piu (s : State) : (compose s).piu = s.piu := rfl
@[simp] theorem compose_smr (s : State) : (compose s).smr = s.smr := rfl
@[simp] theorem compose_free (s : State) : (compose s).free = s.free := rfl
@[simp] theorem compose_pending (s : State) : (compose s).pending = s.pending := rfl

/-! ### toFen -/

@[simp] theorem toFen_clc (e : FenEvent) (s : State) : (toFen e s).clc = s.clc := rfl
@[simp] theorem toFen_miu (e : FenEvent) (s : State) : (toFen e s).miu = s.miu := rfl
@[simp] theorem toFen_cku (e : FenEvent) (s : State) : (toFen e s).cku = s.cku := rfl
@[simp] theorem toFen_tfs (e : FenEvent) (s : State) : (toFen e s).tfs = s.tfs := rfl
@[simp] theorem toFen_fen (e : FenEvent) (s : State) : (toFen e s).fen = s.fen := rfl
@[simp] theorem toFen_vbu (e : FenEvent) (s : State) : (toFen e s).vbu = s.vbu := rfl
@[simp] theorem toFen_stu (e : FenEvent) (s : State) : (toFen e s).stu = s.stu := rfl
@[simp] theorem toFen_tlc (e : FenEvent) (s : State) : (toFen e s).tlc = s.tlc := rfl
@[simp] theorem toFen_sau (e : FenEvent) (s : State) : (toFen e s).sau = s.sau := rfl
@[simp] theorem toFen_sgu (e : FenEvent) (s : State) : (toFen e s).sgu = s.sgu := rfl
@[simp] theorem toFen_rbc (e : FenEvent) (s : State) : (toFen e s).rbc = s.rbc := rfl
@[simp] theorem toFen_piu (e : FenEvent) (s : State) : (toFen e s).piu = s.piu := rfl
@[simp] theorem toFen_smr (e : FenEvent) (s : State) : (toFen e s).smr = s.smr := rfl
@[simp] theorem toFen_free (e : FenEvent) (s : State) : (toFen e s).free = s.free := rfl
@[simp] theorem toFen_pending (e : FenEvent) (s : State) : (toFen e s).pending = s.pending := rfl

/-! ### issueReport -/

@[simp] theorem issueReport_clc (r : SecondReport) (s : State) : (issueReport r s).clc = s.clc := rfl
@[simp] theorem issueReport_miu (r : SecondReport) (s : State) : (issueReport r s).miu = s.miu := rfl
@[simp] theorem issueReport_cku (r : SecondReport) (s : State) : (issueReport r s).cku = s.cku := rfl
@[simp] theorem issueReport_tfs (r : SecondReport) (s : State) : (issueReport r s).tfs = s.tfs := rfl
@[simp] theorem issueReport_fen (r : SecondReport) (s : State) : (issueReport r s).fen = s.fen := rfl
@[simp] theorem issueReport_vbu (r : SecondReport) (s : State) : (issueReport r s).vbu = s.vbu := rfl
@[simp] theorem issueReport_stu (r : SecondReport) (s : State) : (issueReport r s).stu = s.stu := rfl
@[simp] theorem issueReport_tlc (r : SecondReport) (s : State) : (issueReport r s).tlc = s.tlc := rfl
@[simp] theorem issueReport_sau (r : SecondReport) (s : State) : (issueReport r s).sau = s.sau := rfl
@[simp] theorem issueReport_sgu (r : SecondReport) (s : State) : (issueReport r s).sgu = s.sgu := rfl
@[simp] theorem issueReport_rbc (r : SecondReport) (s : State) : (issueReport r s).rbc = s.rbc := rfl
@[simp] theorem issueReport_piu (r : SecondReport) (s : State) : (issueReport r s).piu = s.piu := rfl
@[simp] theorem issueReport_smr (r : SecondReport) (s : State) : (issueReport r s).smr = s.smr := rfl
@[simp] theorem issueReport_free (r : SecondReport) (s : State) : (issueReport r s).free = s.free := rfl
@[simp] theorem issueReport_pending (r : SecondReport) (s : State) : (issueReport r s).pending = s.pending := rfl

/-! ### recomputeSign -/

@[simp] theorem recomputeSign_clc (s : State) : (recomputeSign s).clc = s.clc := rfl
@[simp] theorem recomputeSign_miu (s : State) : (recomputeSign s).miu = s.miu := rfl
@[simp] theorem recomputeSign_cku (s : State) : (recomputeSign s).cku = s.cku := rfl
@[simp] theorem recomputeSign_tfs (s : State) : (recomputeSign s).tfs = s.tfs := rfl
@[simp] theorem recomputeSign_fen (s : State) : (recomputeSign s).fen = s.fen := rfl
@[simp] theorem recomputeSign_vbu (s : State) : (recomputeSign s).vbu = s.vbu := rfl
@[simp] theorem recomputeSign_stu (s : State) : (recomputeSign s).stu = s.stu := rfl
@[simp] theorem recomputeSign_tlc (s : State) : (recomputeSign s).tlc = s.tlc := rfl
@[simp] theorem recomputeSign_sau (s : State) : (recomputeSign s).sau = s.sau := rfl
@[simp] theorem recomputeSign_rbc (s : State) : (recomputeSign s).rbc = s.rbc := rfl
@[simp] theorem recomputeSign_piu (s : State) : (recomputeSign s).piu = s.piu := rfl
@[simp] theorem recomputeSign_smr (s : State) : (recomputeSign s).smr = s.smr := rfl
@[simp] theorem recomputeSign_transit (s : State) : (recomputeSign s).transit = s.transit := rfl
@[simp] theorem recomputeSign_free (s : State) : (recomputeSign s).free = s.free := rfl
@[simp] theorem recomputeSign_pending (s : State) : (recomputeSign s).pending = s.pending := rfl

/-! ### handLabel -/

@[simp] theorem handLabel_clc (s : State) : (handLabel s).clc = s.clc := rfl
@[simp] theorem handLabel_miu (s : State) : (handLabel s).miu = s.miu := rfl
@[simp] theorem handLabel_cku (s : State) : (handLabel s).cku = s.cku := rfl
@[simp] theorem handLabel_tfs (s : State) : (handLabel s).tfs = s.tfs := rfl
@[simp] theorem handLabel_fen (s : State) : (handLabel s).fen = s.fen := rfl
@[simp] theorem handLabel_vbu (s : State) : (handLabel s).vbu = s.vbu := rfl
@[simp] theorem handLabel_stu (s : State) : (handLabel s).stu = s.stu := rfl
@[simp] theorem handLabel_tlc (s : State) : (handLabel s).tlc = s.tlc := rfl
@[simp] theorem handLabel_sau (s : State) : (handLabel s).sau = s.sau := rfl
@[simp] theorem handLabel_rbc (s : State) : (handLabel s).rbc = s.rbc := rfl
@[simp] theorem handLabel_piu (s : State) : (handLabel s).piu = s.piu := rfl
@[simp] theorem handLabel_smr (s : State) : (handLabel s).smr = s.smr := rfl
@[simp] theorem handLabel_transit (s : State) : (handLabel s).transit = s.transit := rfl
@[simp] theorem handLabel_free (s : State) : (handLabel s).free = s.free := rfl
@[simp] theorem handLabel_pending (s : State) : (handLabel s).pending = s.pending := rfl

/-! ### fullRefresh -/

@[simp] theorem fullRefresh_clc (s : State) : (fullRefresh s).clc = s.clc := rfl
@[simp] theorem fullRefresh_miu (s : State) : (fullRefresh s).miu = s.miu := rfl
@[simp] theorem fullRefresh_cku (s : State) : (fullRefresh s).cku = s.cku := rfl
@[simp] theorem fullRefresh_tfs (s : State) : (fullRefresh s).tfs = s.tfs := rfl
@[simp] theorem fullRefresh_fen (s : State) : (fullRefresh s).fen = s.fen := rfl
@[simp] theorem fullRefresh_vbu (s : State) : (fullRefresh s).vbu = s.vbu := rfl
@[simp] theorem fullRefresh_stu (s : State) : (fullRefresh s).stu = s.stu := rfl
@[simp] theorem fullRefresh_tlc (s : State) : (fullRefresh s).tlc = s.tlc := rfl
@[simp] theorem fullRefresh_sau (s : State) : (fullRefresh s).sau = s.sau := rfl
@[simp] theorem fullRefresh_rbc (s : State) : (fullRefresh s).rbc = s.rbc := rfl
@[simp] theorem fullRefresh_piu (s : State) : (fullRefresh s).piu = s.piu := rfl
@[simp] theorem fullRefresh_smr (s : State) : (fullRefresh s).smr = s.smr := rfl
@[simp] theorem fullRefresh_transit (s : State) : (fullRefresh s).transit = s.transit := rfl
@[simp] theorem fullRefresh_free (s : State) : (fullRefresh s).free = s.free := rfl
@[simp] theorem fullRefresh_pending (s : State) : (fullRefresh s).pending = s.pending := rfl

/-! ### enterHeld -/

@[simp] theorem enterHeld_clc (s : State) : (enterHeld s).clc = s.clc := rfl
@[simp] theorem enterHeld_miu (s : State) : (enterHeld s).miu = s.miu := rfl
@[simp] theorem enterHeld_cku (s : State) : (enterHeld s).cku = s.cku := rfl
@[simp] theorem enterHeld_tfs (s : State) : (enterHeld s).tfs = s.tfs := rfl
@[simp] theorem enterHeld_fen (s : State) : (enterHeld s).fen = s.fen := rfl
@[simp] theorem enterHeld_vbu (s : State) : (enterHeld s).vbu = s.vbu := rfl
@[simp] theorem enterHeld_stu (s : State) : (enterHeld s).stu = s.stu := rfl
@[simp] theorem enterHeld_tlc (s : State) : (enterHeld s).tlc = s.tlc := rfl
@[simp] theorem enterHeld_sau (s : State) : (enterHeld s).sau = s.sau := rfl
@[simp] theorem enterHeld_piu (s : State) : (enterHeld s).piu = s.piu := rfl
@[simp] theorem enterHeld_smr (s : State) : (enterHeld s).smr = s.smr := rfl
@[simp] theorem enterHeld_transit (s : State) : (enterHeld s).transit = s.transit := rfl
@[simp] theorem enterHeld_free (s : State) : (enterHeld s).free = s.free := rfl
@[simp] theorem enterHeld_pending (s : State) : (enterHeld s).pending = s.pending := rfl

/-! ### applyBandChange -/

@[simp] theorem applyBandChange_clc (n : Nat) (s : State) : (applyBandChange n s).clc = s.clc := rfl
@[simp] theorem applyBandChange_miu (n : Nat) (s : State) : (applyBandChange n s).miu = s.miu := rfl
@[simp] theorem applyBandChange_cku (n : Nat) (s : State) : (applyBandChange n s).cku = s.cku := rfl
@[simp] theorem applyBandChange_tfs (n : Nat) (s : State) : (applyBandChange n s).tfs = s.tfs := rfl
@[simp] theorem applyBandChange_vbu (n : Nat) (s : State) : (applyBandChange n s).vbu = s.vbu := rfl
@[simp] theorem applyBandChange_stu (n : Nat) (s : State) : (applyBandChange n s).stu = s.stu := rfl
@[simp] theorem applyBandChange_tlc (n : Nat) (s : State) : (applyBandChange n s).tlc = s.tlc := rfl
@[simp] theorem applyBandChange_sau (n : Nat) (s : State) : (applyBandChange n s).sau = s.sau := rfl
@[simp] theorem applyBandChange_sgu (n : Nat) (s : State) : (applyBandChange n s).sgu = s.sgu := rfl
@[simp] theorem applyBandChange_rbc (n : Nat) (s : State) : (applyBandChange n s).rbc = s.rbc := rfl
@[simp] theorem applyBandChange_piu (n : Nat) (s : State) : (applyBandChange n s).piu = s.piu := rfl
@[simp] theorem applyBandChange_smr (n : Nat) (s : State) : (applyBandChange n s).smr = s.smr := rfl
@[simp] theorem applyBandChange_transit (n : Nat) (s : State) : (applyBandChange n s).transit = s.transit := rfl
@[simp] theorem applyBandChange_free (n : Nat) (s : State) : (applyBandChange n s).free = s.free := rfl
@[simp] theorem applyBandChange_pending (n : Nat) (s : State) : (applyBandChange n s).pending = s.pending := rfl

/-! ### suspendRunning -/

@[simp] theorem suspendRunning_clc (s : State) : (suspendRunning s).clc = s.clc := rfl
@[simp] theorem suspendRunning_miu (s : State) : (suspendRunning s).miu = s.miu := rfl
@[simp] theorem suspendRunning_cku (s : State) : (suspendRunning s).cku = s.cku := rfl
@[simp] theorem suspendRunning_tfs (s : State) : (suspendRunning s).tfs = s.tfs := rfl
@[simp] theorem suspendRunning_vbu (s : State) : (suspendRunning s).vbu = s.vbu := rfl
@[simp] theorem suspendRunning_stu (s : State) : (suspendRunning s).stu = s.stu := rfl
@[simp] theorem suspendRunning_tlc (s : State) : (suspendRunning s).tlc = s.tlc := rfl
@[simp] theorem suspendRunning_sau (s : State) : (suspendRunning s).sau = s.sau := rfl
@[simp] theorem suspendRunning_sgu (s : State) : (suspendRunning s).sgu = s.sgu := rfl
@[simp] theorem suspendRunning_rbc (s : State) : (suspendRunning s).rbc = s.rbc := rfl
@[simp] theorem suspendRunning_piu (s : State) : (suspendRunning s).piu = s.piu := rfl
@[simp] theorem suspendRunning_smr (s : State) : (suspendRunning s).smr = s.smr := rfl
@[simp] theorem suspendRunning_transit (s : State) : (suspendRunning s).transit = s.transit := rfl
@[simp] theorem suspendRunning_free (s : State) : (suspendRunning s).free = s.free := rfl
@[simp] theorem suspendRunning_pending (s : State) : (suspendRunning s).pending = s.pending := rfl

/-! ### pinBegun -/

@[simp] theorem pinBegun_clc (s : State) : (pinBegun s).clc = s.clc := rfl
@[simp] theorem pinBegun_miu (s : State) : (pinBegun s).miu = s.miu := rfl
@[simp] theorem pinBegun_cku (s : State) : (pinBegun s).cku = s.cku := rfl
@[simp] theorem pinBegun_tfs (s : State) : (pinBegun s).tfs = s.tfs := rfl
@[simp] theorem pinBegun_fen (s : State) : (pinBegun s).fen = s.fen := rfl
@[simp] theorem pinBegun_vbu (s : State) : (pinBegun s).vbu = s.vbu := rfl
@[simp] theorem pinBegun_stu (s : State) : (pinBegun s).stu = s.stu := rfl
@[simp] theorem pinBegun_tlc (s : State) : (pinBegun s).tlc = s.tlc := rfl
@[simp] theorem pinBegun_sau (s : State) : (pinBegun s).sau = s.sau := rfl
@[simp] theorem pinBegun_sgu (s : State) : (pinBegun s).sgu = s.sgu := rfl
@[simp] theorem pinBegun_rbc (s : State) : (pinBegun s).rbc = s.rbc := rfl
@[simp] theorem pinBegun_smr (s : State) : (pinBegun s).smr = s.smr := rfl
@[simp] theorem pinBegun_transit (s : State) : (pinBegun s).transit = s.transit := rfl
@[simp] theorem pinBegun_pending (s : State) : (pinBegun s).pending = s.pending := rfl

/-! ### pinEnded -/

@[simp] theorem pinEnded_clc (s : State) : (pinEnded s).clc = s.clc := rfl
@[simp] theorem pinEnded_miu (s : State) : (pinEnded s).miu = s.miu := rfl
@[simp] theorem pinEnded_cku (s : State) : (pinEnded s).cku = s.cku := rfl
@[simp] theorem pinEnded_tfs (s : State) : (pinEnded s).tfs = s.tfs := rfl
@[simp] theorem pinEnded_fen (s : State) : (pinEnded s).fen = s.fen := rfl
@[simp] theorem pinEnded_vbu (s : State) : (pinEnded s).vbu = s.vbu := rfl
@[simp] theorem pinEnded_stu (s : State) : (pinEnded s).stu = s.stu := rfl
@[simp] theorem pinEnded_tlc (s : State) : (pinEnded s).tlc = s.tlc := rfl
@[simp] theorem pinEnded_sau (s : State) : (pinEnded s).sau = s.sau := rfl
@[simp] theorem pinEnded_sgu (s : State) : (pinEnded s).sgu = s.sgu := rfl
@[simp] theorem pinEnded_rbc (s : State) : (pinEnded s).rbc = s.rbc := rfl
@[simp] theorem pinEnded_smr (s : State) : (pinEnded s).smr = s.smr := rfl
@[simp] theorem pinEnded_transit (s : State) : (pinEnded s).transit = s.transit := rfl
@[simp] theorem pinEnded_free (s : State) : (pinEnded s).free = s.free := rfl
@[simp] theorem pinEnded_pending (s : State) : (pinEnded s).pending = s.pending := rfl

/-! ### placeMessage -/

@[simp] theorem placeMessage_clc (m : TermMsg) (s : State) : (placeMessage m s).clc = s.clc := rfl
@[simp] theorem placeMessage_miu (m : TermMsg) (s : State) : (placeMessage m s).miu = s.miu := rfl
@[simp] theorem placeMessage_cku (m : TermMsg) (s : State) : (placeMessage m s).cku = s.cku := rfl
@[simp] theorem placeMessage_tfs (m : TermMsg) (s : State) : (placeMessage m s).tfs = s.tfs := rfl
@[simp] theorem placeMessage_fen (m : TermMsg) (s : State) : (placeMessage m s).fen = s.fen := rfl
@[simp] theorem placeMessage_vbu (m : TermMsg) (s : State) : (placeMessage m s).vbu = s.vbu := rfl
@[simp] theorem placeMessage_stu (m : TermMsg) (s : State) : (placeMessage m s).stu = s.stu := rfl
@[simp] theorem placeMessage_sau (m : TermMsg) (s : State) : (placeMessage m s).sau = s.sau := rfl
@[simp] theorem placeMessage_sgu (m : TermMsg) (s : State) : (placeMessage m s).sgu = s.sgu := rfl
@[simp] theorem placeMessage_rbc (m : TermMsg) (s : State) : (placeMessage m s).rbc = s.rbc := rfl
@[simp] theorem placeMessage_piu (m : TermMsg) (s : State) : (placeMessage m s).piu = s.piu := rfl
@[simp] theorem placeMessage_smr (m : TermMsg) (s : State) : (placeMessage m s).smr = s.smr := rfl
@[simp] theorem placeMessage_transit (m : TermMsg) (s : State) : (placeMessage m s).transit = s.transit := rfl
@[simp] theorem placeMessage_free (m : TermMsg) (s : State) : (placeMessage m s).free = s.free := rfl
@[simp] theorem placeMessage_pending (m : TermMsg) (s : State) : (placeMessage m s).pending = s.pending := rfl

/-! ### emptyMessage -/

@[simp] theorem emptyMessage_clc (s : State) : (emptyMessage s).clc = s.clc := rfl
@[simp] theorem emptyMessage_miu (s : State) : (emptyMessage s).miu = s.miu := rfl
@[simp] theorem emptyMessage_cku (s : State) : (emptyMessage s).cku = s.cku := rfl
@[simp] theorem emptyMessage_tfs (s : State) : (emptyMessage s).tfs = s.tfs := rfl
@[simp] theorem emptyMessage_fen (s : State) : (emptyMessage s).fen = s.fen := rfl
@[simp] theorem emptyMessage_vbu (s : State) : (emptyMessage s).vbu = s.vbu := rfl
@[simp] theorem emptyMessage_stu (s : State) : (emptyMessage s).stu = s.stu := rfl
@[simp] theorem emptyMessage_sau (s : State) : (emptyMessage s).sau = s.sau := rfl
@[simp] theorem emptyMessage_sgu (s : State) : (emptyMessage s).sgu = s.sgu := rfl
@[simp] theorem emptyMessage_rbc (s : State) : (emptyMessage s).rbc = s.rbc := rfl
@[simp] theorem emptyMessage_piu (s : State) : (emptyMessage s).piu = s.piu := rfl
@[simp] theorem emptyMessage_smr (s : State) : (emptyMessage s).smr = s.smr := rfl
@[simp] theorem emptyMessage_transit (s : State) : (emptyMessage s).transit = s.transit := rfl
@[simp] theorem emptyMessage_free (s : State) : (emptyMessage s).free = s.free := rfl
@[simp] theorem emptyMessage_pending (s : State) : (emptyMessage s).pending = s.pending := rfl

/-! ### post -/

@[simp] theorem post_clc (f : ShiftRecord → ShiftRecord) (s : State) : (post f s).clc = s.clc := by
  unfold post; split <;> rfl
@[simp] theorem post_miu (f : ShiftRecord → ShiftRecord) (s : State) : (post f s).miu = s.miu := by
  unfold post; split <;> rfl
@[simp] theorem post_cku (f : ShiftRecord → ShiftRecord) (s : State) : (post f s).cku = s.cku := by
  unfold post; split <;> rfl
@[simp] theorem post_tfs (f : ShiftRecord → ShiftRecord) (s : State) : (post f s).tfs = s.tfs := by
  unfold post; split <;> rfl
@[simp] theorem post_fen (f : ShiftRecord → ShiftRecord) (s : State) : (post f s).fen = s.fen := by
  unfold post; split <;> rfl
@[simp] theorem post_vbu (f : ShiftRecord → ShiftRecord) (s : State) : (post f s).vbu = s.vbu := by
  unfold post; split <;> rfl
@[simp] theorem post_stu (f : ShiftRecord → ShiftRecord) (s : State) : (post f s).stu = s.stu := by
  unfold post; split <;> rfl
@[simp] theorem post_tlc (f : ShiftRecord → ShiftRecord) (s : State) : (post f s).tlc = s.tlc := by
  unfold post; split <;> rfl
@[simp] theorem post_sgu (f : ShiftRecord → ShiftRecord) (s : State) : (post f s).sgu = s.sgu := by
  unfold post; split <;> rfl
@[simp] theorem post_rbc (f : ShiftRecord → ShiftRecord) (s : State) : (post f s).rbc = s.rbc := by
  unfold post; split <;> rfl
@[simp] theorem post_piu (f : ShiftRecord → ShiftRecord) (s : State) : (post f s).piu = s.piu := by
  unfold post; split <;> rfl
@[simp] theorem post_smr (f : ShiftRecord → ShiftRecord) (s : State) : (post f s).smr = s.smr := by
  unfold post; split <;> rfl
@[simp] theorem post_transit (f : ShiftRecord → ShiftRecord) (s : State) : (post f s).transit = s.transit := by
  unfold post; split <;> rfl
@[simp] theorem post_free (f : ShiftRecord → ShiftRecord) (s : State) : (post f s).free = s.free := by
  unfold post; split <;> rfl
@[simp] theorem post_pending (f : ShiftRecord → ShiftRecord) (s : State) : (post f s).pending = s.pending := by
  unfold post; split <;> rfl

/-! ### reloadLag -/

@[simp] theorem reloadLag_miu (s : State) : (reloadLag s).miu = s.miu := by
  unfold reloadLag; dsimp only; split <;> rfl
@[simp] theorem reloadLag_cku (s : State) : (reloadLag s).cku = s.cku := by
  unfold reloadLag; dsimp only; split <;> rfl
@[simp] theorem reloadLag_tfs (s : State) : (reloadLag s).tfs = s.tfs := by
  unfold reloadLag; dsimp only; split <;> rfl
@[simp] theorem reloadLag_fen (s : State) : (reloadLag s).fen = s.fen := by
  unfold reloadLag; dsimp only; split <;> rfl
@[simp] theorem reloadLag_stu (s : State) : (reloadLag s).stu = s.stu := by
  unfold reloadLag; dsimp only; split <;> rfl
@[simp] theorem reloadLag_tlc (s : State) : (reloadLag s).tlc = s.tlc := by
  unfold reloadLag; dsimp only; split <;> rfl
@[simp] theorem reloadLag_sau (s : State) : (reloadLag s).sau = s.sau := by
  unfold reloadLag; dsimp only; split <;> rfl
@[simp] theorem reloadLag_sgu (s : State) : (reloadLag s).sgu = s.sgu := by
  unfold reloadLag; dsimp only; split <;> rfl
@[simp] theorem reloadLag_rbc (s : State) : (reloadLag s).rbc = s.rbc := by
  unfold reloadLag; dsimp only; split <;> rfl
@[simp] theorem reloadLag_piu (s : State) : (reloadLag s).piu = s.piu := by
  unfold reloadLag; dsimp only; split <;> rfl
@[simp] theorem reloadLag_smr (s : State) : (reloadLag s).smr = s.smr := by
  unfold reloadLag; dsimp only; split <;> rfl
@[simp] theorem reloadLag_transit (s : State) : (reloadLag s).transit = s.transit := by
  unfold reloadLag; dsimp only; split <;> rfl
@[simp] theorem reloadLag_free (s : State) : (reloadLag s).free = s.free := by
  unfold reloadLag; dsimp only; split <;> rfl
@[simp] theorem reloadLag_pending (s : State) : (reloadLag s).pending = s.pending := by
  unfold reloadLag; dsimp only; split <;> rfl

/-! ### staleOnset -/

@[simp] theorem staleOnset_miu (s : State) : (staleOnset s).miu = s.miu := by
  simp [staleOnset]
@[simp] theorem staleOnset_cku (s : State) : (staleOnset s).cku = s.cku := by
  simp [staleOnset]
@[simp] theorem staleOnset_tfs (s : State) : (staleOnset s).tfs = s.tfs := by
  simp [staleOnset]
@[simp] theorem staleOnset_fen (s : State) : (staleOnset s).fen = s.fen := by
  simp [staleOnset]
@[simp] theorem staleOnset_vbu (s : State) : (staleOnset s).vbu = s.vbu := by
  simp [staleOnset]
@[simp] theorem staleOnset_stu (s : State) : (staleOnset s).stu = s.stu := by
  simp [staleOnset]
@[simp] theorem staleOnset_tlc (s : State) : (staleOnset s).tlc = s.tlc := by
  simp [staleOnset]
@[simp] theorem staleOnset_sgu (s : State) : (staleOnset s).sgu = s.sgu := by
  simp [staleOnset]
@[simp] theorem staleOnset_rbc (s : State) : (staleOnset s).rbc = s.rbc := by
  simp [staleOnset]
@[simp] theorem staleOnset_piu (s : State) : (staleOnset s).piu = s.piu := by
  simp [staleOnset]
@[simp] theorem staleOnset_smr (s : State) : (staleOnset s).smr = s.smr := by
  simp [staleOnset]
@[simp] theorem staleOnset_transit (s : State) : (staleOnset s).transit = s.transit := by
  simp [staleOnset]
@[simp] theorem staleOnset_free (s : State) : (staleOnset s).free = s.free := by
  simp [staleOnset]
@[simp] theorem staleOnset_pending (s : State) : (staleOnset s).pending = s.pending := by
  simp [staleOnset]

/-! ### evaluateSchedule -/

@[simp] theorem evaluateSchedule_miu (s : State) : (evaluateSchedule s).miu = s.miu := by
  unfold evaluateSchedule; dsimp only; split <;> simp
@[simp] theorem evaluateSchedule_cku (s : State) : (evaluateSchedule s).cku = s.cku := by
  unfold evaluateSchedule; dsimp only; split <;> simp
@[simp] theorem evaluateSchedule_fen (s : State) : (evaluateSchedule s).fen = s.fen := by
  unfold evaluateSchedule; dsimp only; split <;> simp
@[simp] theorem evaluateSchedule_vbu (s : State) : (evaluateSchedule s).vbu = s.vbu := by
  unfold evaluateSchedule; dsimp only; split <;> simp
@[simp] theorem evaluateSchedule_stu (s : State) : (evaluateSchedule s).stu = s.stu := by
  unfold evaluateSchedule; dsimp only; split <;> simp
@[simp] theorem evaluateSchedule_tlc (s : State) : (evaluateSchedule s).tlc = s.tlc := by
  unfold evaluateSchedule; dsimp only; split <;> simp
@[simp] theorem evaluateSchedule_sau (s : State) : (evaluateSchedule s).sau = s.sau := by
  unfold evaluateSchedule; dsimp only; split <;> simp
@[simp] theorem evaluateSchedule_rbc (s : State) : (evaluateSchedule s).rbc = s.rbc := by
  unfold evaluateSchedule; dsimp only; split <;> simp
@[simp] theorem evaluateSchedule_piu (s : State) : (evaluateSchedule s).piu = s.piu := by
  unfold evaluateSchedule; dsimp only; split <;> simp
@[simp] theorem evaluateSchedule_smr (s : State) : (evaluateSchedule s).smr = s.smr := by
  unfold evaluateSchedule; dsimp only; split <;> simp
@[simp] theorem evaluateSchedule_free (s : State) : (evaluateSchedule s).free = s.free := by
  unfold evaluateSchedule; dsimp only; split <;> simp
@[simp] theorem evaluateSchedule_pending (s : State) : (evaluateSchedule s).pending = s.pending := by
  unfold evaluateSchedule; dsimp only; split <;> simp

/-! ### takeAccrual -/

@[simp] theorem takeAccrual_miu (k : Slot) (a : Accrual) (s : State) : (takeAccrual k a s).miu = s.miu := by
  unfold takeAccrual; dsimp only; split_ifs <;> simp
@[simp] theorem takeAccrual_cku (k : Slot) (a : Accrual) (s : State) : (takeAccrual k a s).cku = s.cku := by
  unfold takeAccrual; dsimp only; split_ifs <;> simp
@[simp] theorem takeAccrual_tfs (k : Slot) (a : Accrual) (s : State) : (takeAccrual k a s).tfs = s.tfs := by
  unfold takeAccrual; dsimp only; split_ifs <;> simp
@[simp] theorem takeAccrual_stu (k : Slot) (a : Accrual) (s : State) : (takeAccrual k a s).stu = s.stu := by
  unfold takeAccrual; dsimp only; split_ifs <;> simp
@[simp] theorem takeAccrual_tlc (k : Slot) (a : Accrual) (s : State) : (takeAccrual k a s).tlc = s.tlc := by
  unfold takeAccrual; dsimp only; split_ifs <;> simp
@[simp] theorem takeAccrual_sgu (k : Slot) (a : Accrual) (s : State) : (takeAccrual k a s).sgu = s.sgu := by
  unfold takeAccrual; dsimp only; split_ifs <;> simp
@[simp] theorem takeAccrual_rbc (k : Slot) (a : Accrual) (s : State) : (takeAccrual k a s).rbc = s.rbc := by
  unfold takeAccrual; dsimp only; split_ifs <;> simp
@[simp] theorem takeAccrual_piu (k : Slot) (a : Accrual) (s : State) : (takeAccrual k a s).piu = s.piu := by
  unfold takeAccrual; dsimp only; split_ifs <;> simp
@[simp] theorem takeAccrual_smr (k : Slot) (a : Accrual) (s : State) : (takeAccrual k a s).smr = s.smr := by
  unfold takeAccrual; dsimp only; split_ifs <;> simp
@[simp] theorem takeAccrual_transit (k : Slot) (a : Accrual) (s : State) : (takeAccrual k a s).transit = s.transit := by
  unfold takeAccrual; dsimp only; split_ifs <;> simp
@[simp] theorem takeAccrual_free (k : Slot) (a : Accrual) (s : State) : (takeAccrual k a s).free = s.free := by
  unfold takeAccrual; dsimp only; split_ifs <;> simp
@[simp] theorem takeAccrual_pending (k : Slot) (a : Accrual) (s : State) : (takeAccrual k a s).pending = s.pending := by
  unfold takeAccrual; dsimp only; split_ifs <;> simp

/-! ### closeHire -/

@[simp] theorem closeHire_miu (k : Slot) (paid : Bool) (w : Nat) (h : Hire) (s : State) : (closeHire k paid w h s).miu = s.miu := by
  simp [closeHire]
@[simp] theorem closeHire_cku (k : Slot) (paid : Bool) (w : Nat) (h : Hire) (s : State) : (closeHire k paid w h s).cku = s.cku := by
  simp [closeHire]
@[simp] theorem closeHire_tfs (k : Slot) (paid : Bool) (w : Nat) (h : Hire) (s : State) : (closeHire k paid w h s).tfs = s.tfs := by
  simp [closeHire]
@[simp] theorem closeHire_vbu (k : Slot) (paid : Bool) (w : Nat) (h : Hire) (s : State) : (closeHire k paid w h s).vbu = s.vbu := by
  simp [closeHire]
@[simp] theorem closeHire_stu (k : Slot) (paid : Bool) (w : Nat) (h : Hire) (s : State) : (closeHire k paid w h s).stu = s.stu := by
  simp [closeHire]
@[simp] theorem closeHire_tlc (k : Slot) (paid : Bool) (w : Nat) (h : Hire) (s : State) : (closeHire k paid w h s).tlc = s.tlc := by
  simp [closeHire]
@[simp] theorem closeHire_rbc (k : Slot) (paid : Bool) (w : Nat) (h : Hire) (s : State) : (closeHire k paid w h s).rbc = s.rbc := by
  simp [closeHire]
@[simp] theorem closeHire_piu (k : Slot) (paid : Bool) (w : Nat) (h : Hire) (s : State) : (closeHire k paid w h s).piu = s.piu := by
  simp [closeHire]
@[simp] theorem closeHire_smr (k : Slot) (paid : Bool) (w : Nat) (h : Hire) (s : State) : (closeHire k paid w h s).smr = s.smr := by
  simp [closeHire]
@[simp] theorem closeHire_transit (k : Slot) (paid : Bool) (w : Nat) (h : Hire) (s : State) : (closeHire k paid w h s).transit = s.transit := by
  simp [closeHire]
@[simp] theorem closeHire_free (k : Slot) (paid : Bool) (w : Nat) (h : Hire) (s : State) : (closeHire k paid w h s).free = s.free := by
  simp [closeHire]
@[simp] theorem closeHire_pending (k : Slot) (paid : Bool) (w : Nat) (h : Hire) (s : State) : (closeHire k paid w h s).pending = s.pending := by
  simp [closeHire]

/-! ### setQueue -/

@[simp] theorem setQueue_miu (q : List AuthEntry) (s : State) : (setQueue q s).miu = s.miu := by
  unfold setQueue; dsimp only; split_ifs <;> simp
@[simp] theorem setQueue_cku (q : List AuthEntry) (s : State) : (setQueue q s).cku = s.cku := by
  unfold setQueue; dsimp only; split_ifs <;> simp
@[simp] theorem setQueue_tfs (q : List AuthEntry) (s : State) : (setQueue q s).tfs = s.tfs := by
  unfold setQueue; dsimp only; split_ifs <;> simp
@[simp] theorem setQueue_fen (q : List AuthEntry) (s : State) : (setQueue q s).fen = s.fen := by
  unfold setQueue; dsimp only; split_ifs <;> simp
@[simp] theorem setQueue_vbu (q : List AuthEntry) (s : State) : (setQueue q s).vbu = s.vbu := by
  unfold setQueue; dsimp only; split_ifs <;> simp
@[simp] theorem setQueue_tlc (q : List AuthEntry) (s : State) : (setQueue q s).tlc = s.tlc := by
  unfold setQueue; dsimp only; split_ifs <;> simp
@[simp] theorem setQueue_sau (q : List AuthEntry) (s : State) : (setQueue q s).sau = s.sau := by
  unfold setQueue; dsimp only; split_ifs <;> simp
@[simp] theorem setQueue_sgu (q : List AuthEntry) (s : State) : (setQueue q s).sgu = s.sgu := by
  unfold setQueue; dsimp only; split_ifs <;> simp
@[simp] theorem setQueue_rbc (q : List AuthEntry) (s : State) : (setQueue q s).rbc = s.rbc := by
  unfold setQueue; dsimp only; split_ifs <;> simp
@[simp] theorem setQueue_piu (q : List AuthEntry) (s : State) : (setQueue q s).piu = s.piu := by
  unfold setQueue; dsimp only; split_ifs <;> simp
@[simp] theorem setQueue_smr (q : List AuthEntry) (s : State) : (setQueue q s).smr = s.smr := by
  unfold setQueue; dsimp only; split_ifs <;> simp
@[simp] theorem setQueue_transit (q : List AuthEntry) (s : State) : (setQueue q s).transit = s.transit := by
  unfold setQueue; dsimp only; split_ifs <;> simp
@[simp] theorem setQueue_free (q : List AuthEntry) (s : State) : (setQueue q s).free = s.free := by
  unfold setQueue; dsimp only; split_ifs <;> simp
@[simp] theorem setQueue_pending (q : List AuthEntry) (s : State) : (setQueue q s).pending = s.pending := by
  unfold setQueue; dsimp only; split_ifs <;> simp

/-! ### raiseSlip -/

@[simp] theorem raiseSlip_miu (b : Bool) (s : State) : (raiseSlip b s).miu = s.miu := by
  unfold raiseSlip; split <;> rfl
@[simp] theorem raiseSlip_cku (b : Bool) (s : State) : (raiseSlip b s).cku = s.cku := by
  unfold raiseSlip; split <;> rfl
@[simp] theorem raiseSlip_tfs (b : Bool) (s : State) : (raiseSlip b s).tfs = s.tfs := by
  unfold raiseSlip; split <;> rfl
@[simp] theorem raiseSlip_fen (b : Bool) (s : State) : (raiseSlip b s).fen = s.fen := by
  unfold raiseSlip; split <;> rfl
@[simp] theorem raiseSlip_vbu (b : Bool) (s : State) : (raiseSlip b s).vbu = s.vbu := by
  unfold raiseSlip; split <;> rfl
@[simp] theorem raiseSlip_stu (b : Bool) (s : State) : (raiseSlip b s).stu = s.stu := by
  unfold raiseSlip; split <;> rfl
@[simp] theorem raiseSlip_tlc (b : Bool) (s : State) : (raiseSlip b s).tlc = s.tlc := by
  unfold raiseSlip; split <;> rfl
@[simp] theorem raiseSlip_sau (b : Bool) (s : State) : (raiseSlip b s).sau = s.sau := by
  unfold raiseSlip; split <;> rfl
@[simp] theorem raiseSlip_sgu (b : Bool) (s : State) : (raiseSlip b s).sgu = s.sgu := by
  unfold raiseSlip; split <;> rfl
@[simp] theorem raiseSlip_rbc (b : Bool) (s : State) : (raiseSlip b s).rbc = s.rbc := by
  unfold raiseSlip; split <;> rfl
@[simp] theorem raiseSlip_piu (b : Bool) (s : State) : (raiseSlip b s).piu = s.piu := by
  unfold raiseSlip; split <;> rfl
@[simp] theorem raiseSlip_smr (b : Bool) (s : State) : (raiseSlip b s).smr = s.smr := by
  unfold raiseSlip; split <;> rfl
@[simp] theorem raiseSlip_transit (b : Bool) (s : State) : (raiseSlip b s).transit = s.transit := by
  unfold raiseSlip; split <;> rfl
@[simp] theorem raiseSlip_free (b : Bool) (s : State) : (raiseSlip b s).free = s.free := by
  unfold raiseSlip; split <;> rfl
@[simp] theorem raiseSlip_pending (b : Bool) (s : State) : (raiseSlip b s).pending = s.pending := by
  unfold raiseSlip; split <;> rfl

/-! ### paymentFailure -/

@[simp] theorem paymentFailure_miu (k : Slot) (s : State) : (paymentFailure k s).miu = s.miu := by
  unfold paymentFailure; split <;> (try split) <;> simp
@[simp] theorem paymentFailure_cku (k : Slot) (s : State) : (paymentFailure k s).cku = s.cku := by
  unfold paymentFailure; split <;> (try split) <;> simp
@[simp] theorem paymentFailure_tfs (k : Slot) (s : State) : (paymentFailure k s).tfs = s.tfs := by
  unfold paymentFailure; split <;> (try split) <;> simp
@[simp] theorem paymentFailure_vbu (k : Slot) (s : State) : (paymentFailure k s).vbu = s.vbu := by
  unfold paymentFailure; split <;> (try split) <;> simp
@[simp] theorem paymentFailure_stu (k : Slot) (s : State) : (paymentFailure k s).stu = s.stu := by
  unfold paymentFailure; split <;> (try split) <;> simp
@[simp] theorem paymentFailure_tlc (k : Slot) (s : State) : (paymentFailure k s).tlc = s.tlc := by
  unfold paymentFailure; split <;> (try split) <;> simp
@[simp] theorem paymentFailure_sau (k : Slot) (s : State) : (paymentFailure k s).sau = s.sau := by
  unfold paymentFailure; split <;> (try split) <;> simp
@[simp] theorem paymentFailure_sgu (k : Slot) (s : State) : (paymentFailure k s).sgu = s.sgu := by
  unfold paymentFailure; split <;> (try split) <;> simp
@[simp] theorem paymentFailure_rbc (k : Slot) (s : State) : (paymentFailure k s).rbc = s.rbc := by
  unfold paymentFailure; split <;> (try split) <;> simp
@[simp] theorem paymentFailure_piu (k : Slot) (s : State) : (paymentFailure k s).piu = s.piu := by
  unfold paymentFailure; split <;> (try split) <;> simp
@[simp] theorem paymentFailure_smr (k : Slot) (s : State) : (paymentFailure k s).smr = s.smr := by
  unfold paymentFailure; split <;> (try split) <;> simp
@[simp] theorem paymentFailure_free (k : Slot) (s : State) : (paymentFailure k s).free = s.free := by
  unfold paymentFailure; split <;> (try split) <;> simp
@[simp] theorem paymentFailure_pending (k : Slot) (s : State) : (paymentFailure k s).pending = s.pending := by
  unfold paymentFailure; split <;> (try split) <;> simp

end Sys2Proof.Machine
end

