-- ==== Sys2Proof/Laws/Spec.lean ====
section
/-! SUPPORT. What the shared operations do: a request and an event taken or not, the one-for-each-slot, role and kind
structures read after a write, notices, the schedule, the sign image, the authorization queue and postings. -/

namespace Sys2Proof.Machine

/-! ## Requests and events -/

theorem request_listening {kind : Byte} {f : State → Served} {s : State} (h : listening s = true) :
    request kind f s = .next (answered kind (f s).status (f s).payload (f s).state) := by
  simp [request, h, answerWith, answered]

theorem request_stopped {kind : Byte} {f : State → Served} {s : State} (h : listening s = false) :
    request kind f s = .next s := by
  simp [request, h]

theorem event_powered {f : State → State} {s : State} (h : powered s = true) : event f s = .next (f s) := by
  simp [event, h]

theorem event_stopped {f : State → State} {s : State} (h : powered s = false) : event f s = .next s := by
  simp [event, h]

/-- The part that takes requests runs. -/
theorem powered_of_listening {s : State} (h : listening s = true) : powered s = true := by
  simp only [listening, Bool.and_eq_true] at h
  simp [powered, h.1]

/-- A part in which a RESTART waits for its start takes no requests. -/
theorem listening_of_restart {s : State} (h : s.smr.restart ≠ none) : listening s = false := by
  cases hr : s.smr.restart with
  | none => exact absurd hr h
  | some t => simp [listening, hr]

theorem unlessRestarting_listening {f : State → State} {s : State} (h : listening s = true) :
    unlessRestarting f s = f s := by
  simp [unlessRestarting, h]

theorem unlessRestarting_stopped {f : State → State} {s : State} (h : listening s = false) :
    unlessRestarting f s = s := by
  simp [unlessRestarting, h]

/-- Running part: a byte on CRX reaches the receiver. -/
theorem hearByte_powered {s : State} {b : Byte} (h : powered s = true) : hearByte s b = receiveByte b s := by
  simp [hearByte, h]

@[simp] theorem toHunt_smr (s : State) : (toHunt s).smr = s.smr := rfl
@[simp] theorem toHunt_clc (s : State) : (toHunt s).clc = { s.clc with rx := .hunt, bytes := [] } := rfl

/-- A gap inside a frame: the frame discarded, the gap counted, LINK GAP raised (R181). -/
theorem cutFrame_inside {s : State} (h : s.clc.rx ≠ .hunt) :
    cutFrame s = raise .gap (s.setClc
      { s.clc with rx := .hunt, bytes := [], gapCount := satAdd max16 s.clc.gapCount 1 }) := by
  simp only [cutFrame, if_neg h]
  rfl

/-- A gap in HUNT changes nothing (R181). -/
theorem cutFrame_hunt {s : State} (h : s.clc.rx = .hunt) : cutFrame s = s := by
  simp [cutFrame, h]

@[simp] theorem served_status (p : List Byte) (s : State) : (served p s).status = .ok := rfl
@[simp] theorem served_payload (p : List Byte) (s : State) : (served p s).payload = p := rfl
@[simp] theorem served_state (p : List Byte) (s : State) : (served p s).state = s := rfl
@[simp] theorem begun_status (s : State) : (begun s).status = .accepted := rfl
@[simp] theorem begun_payload (s : State) : (begun s).payload = [] := rfl
@[simp] theorem begun_state (s : State) : (begun s).state = s := rfl
@[simp] theorem refuse_status (st : Status) (s : State) : (refuse st s).status = st := rfl
@[simp] theorem refuse_payload (st : Status) (s : State) : (refuse st s).payload = [] := rfl
@[simp] theorem refuse_state (st : Status) (s : State) : (refuse st s).state = s := rfl

@[simp] theorem answered_clc (k : Byte) (st : Status) (p : List Byte) (s : State) :
    (answered k st p s).clc = { s.clc with answer := some (.reply (k + 0x80) st p) } := rfl
@[simp] theorem answered_miu (k : Byte) (st : Status) (p : List Byte) (s : State) : (answered k st p s).miu = s.miu := rfl
@[simp] theorem answered_cku (k : Byte) (st : Status) (p : List Byte) (s : State) : (answered k st p s).cku = s.cku := rfl
@[simp] theorem answered_tfs (k : Byte) (st : Status) (p : List Byte) (s : State) : (answered k st p s).tfs = s.tfs := rfl
@[simp] theorem answered_fen (k : Byte) (st : Status) (p : List Byte) (s : State) : (answered k st p s).fen = s.fen := rfl
@[simp] theorem answered_vbu (k : Byte) (st : Status) (p : List Byte) (s : State) : (answered k st p s).vbu = s.vbu := rfl
@[simp] theorem answered_stu (k : Byte) (st : Status) (p : List Byte) (s : State) : (answered k st p s).stu = s.stu := rfl
@[simp] theorem answered_tlc (k : Byte) (st : Status) (p : List Byte) (s : State) : (answered k st p s).tlc = s.tlc := rfl
@[simp] theorem answered_sau (k : Byte) (st : Status) (p : List Byte) (s : State) : (answered k st p s).sau = s.sau := rfl
@[simp] theorem answered_sgu (k : Byte) (st : Status) (p : List Byte) (s : State) : (answered k st p s).sgu = s.sgu := rfl
@[simp] theorem answered_rbc (k : Byte) (st : Status) (p : List Byte) (s : State) : (answered k st p s).rbc = s.rbc := rfl
@[simp] theorem answered_piu (k : Byte) (st : Status) (p : List Byte) (s : State) : (answered k st p s).piu = s.piu := rfl
@[simp] theorem answered_smr (k : Byte) (st : Status) (p : List Byte) (s : State) : (answered k st p s).smr = s.smr := rfl
@[simp] theorem answered_transit (k : Byte) (st : Status) (p : List Byte) (s : State) :
    (answered k st p s).transit = s.transit := rfl
@[simp] theorem answered_free (k : Byte) (st : Status) (p : List Byte) (s : State) :
    (answered k st p s).free = s.free := rfl
@[simp] theorem answered_pending (k : Byte) (st : Status) (p : List Byte) (s : State) :
    (answered k st p s).pending = s.pending := rfl
@[simp] theorem answered_hire (k : Byte) (st : Status) (p : List Byte) (s : State) (j : Slot) :
    (answered k st p s).hire j = s.hire j := rfl

/-! ## Reading after writing -/

@[simp] theorem Four.get_set_same {α : Type} (f : Four α) (k : Slot) (v : α) : (f.set k v).get k = v := by
  cases k <;> rfl
theorem Four.get_set_ne {α : Type} (f : Four α) {j k : Slot} (v : α) (h : j ≠ k) : (f.set k v).get j = f.get j := by
  cases j <;> cases k <;> first | rfl | exact absurd rfl h
theorem Four.get_set {α : Type} (f : Four α) (j k : Slot) (v : α) :
    (f.set k v).get j = if j = k then v else f.get j := by
  by_cases h : j = k
  · subst h; simp
  · simp [Four.get_set_ne f v h, h]
@[simp] theorem Four.get_map {α β : Type} (g : α → β) (f : Four α) (k : Slot) : (f.map g).get k = g (f.get k) := by
  cases k <;> rfl

@[simp] theorem Roles.get_set_same {α : Type} (f : Roles α) (k : Role) (v : α) : (f.set k v).get k = v := by
  cases k <;> rfl
theorem Roles.get_set_ne {α : Type} (f : Roles α) {j k : Role} (v : α) (h : j ≠ k) : (f.set k v).get j = f.get j := by
  cases j <;> cases k <;> first | rfl | exact absurd rfl h
@[simp] theorem Roles.get_map {α β : Type} (g : α → β) (f : Roles α) (k : Role) : (f.map g).get k = g (f.get k) := by
  cases k <;> rfl

@[simp] theorem NoticeSet.get_set_same (n : NoticeSet) (k : NoticeKind) (v : Notice) : (n.set k v).get k = v := by
  cases k <;> rfl
theorem NoticeSet.get_set_ne (n : NoticeSet) {j k : NoticeKind} (v : Notice) (h : j ≠ k) :
    (n.set k v).get j = n.get j := by
  cases j <;> cases k <;> first | rfl | exact absurd rfl h

@[simp] theorem State.setHire_hire_same (s : State) (k : Slot) (h : Option Hire) : (s.setHire k h).hire k = h :=
  Four.get_set_same ..
theorem State.setHire_hire_ne (s : State) {j k : Slot} (h : Option Hire) (n : j ≠ k) : (s.setHire k h).hire j = s.hire j :=
  Four.get_set_ne _ _ n

/-! ## Notices -/

theorem raise_get_kind (r : Reason) (s : State) :
    (raise r s).clc.notices.get r.kind = (s.clc.notices.get r.kind).addReason r.bit := NoticeSet.get_set_same ..
theorem raise_get_ne (r : Reason) (s : State) {k : NoticeKind} (h : k ≠ r.kind) :
    (raise r s).clc.notices.get k = s.clc.notices.get k := NoticeSet.get_set_ne _ _ h
@[simp] theorem raise_answer (r : Reason) (s : State) : (raise r s).clc.answer = s.clc.answer := rfl
@[simp] theorem raise_owed (r : Reason) (s : State) : (raise r s).clc.owed = s.clc.owed := rfl
@[simp] theorem raise_buffer (r : Reason) (s : State) : (raise r s).clc.buffer = s.clc.buffer := rfl

/-! ## The schedule and the sign -/

theorem evaluateSchedule_tfs (s : State) :
    (evaluateSchedule s).tfs = { s.tfs with scheduled := scheduledAt (activeSet s) s.tfs.point } := by
  unfold evaluateSchedule
  dsimp only
  split
  · next h => rw [h]
  · rfl

@[simp] theorem recomputeSign_desired (s : State) : (recomputeSign s).sgu.desired = desiredImage s := rfl
@[simp] theorem recomputeSign_text (s : State) : (recomputeSign s).sgu.text = s.sgu.text := rfl
@[simp] theorem recomputeSign_label (s : State) : (recomputeSign s).sgu.label = s.sgu.label := rfl
@[simp] theorem recomputeSign_latch (s : State) : (recomputeSign s).sgu.latch = s.sgu.latch := rfl
@[simp] theorem recomputeSign_roles (s : State) : (recomputeSign s).sgu.roles = s.sgu.roles := rfl

/-- The image depends on the hires, the shift state and the sign's own text, label and latch only. -/
theorem desiredImage_congr {s t : State} (hf : t.fen = s.fen) (ha : t.sau.shift = s.sau.shift)
    (ht : t.sgu.text = s.sgu.text) (hl : t.sgu.label = s.sgu.label) (hh : t.sgu.latch = s.sgu.latch) :
    desiredImage t = desiredImage s := by
  simp [desiredImage, availContent, textContent, cabEmpty, occupied, freeSeats, hf, ha, ht, hl, hh]

/-! ## Payments and postings -/

@[simp] theorem setQueue_stu (q : List AuthEntry) (s : State) : (setQueue q s).stu = { s.stu with queue := q } := by
  unfold setQueue
  dsimp only
  split_ifs <;> rfl

theorem setQueue_get_ne (q : List AuthEntry) (s : State) {k : NoticeKind} (h : k ≠ .authWaiting) :
    (setQueue q s).clc.notices.get k = s.clc.notices.get k := by
  unfold setQueue
  dsimp only
  split_ifs
  · exact NoticeSet.get_set_ne _ _ h
  · exact NoticeSet.get_set_ne _ _ h
  · rfl

theorem post_running {f : ShiftRecord → ShiftRecord} {s : State} (h : s.sau.shift ≠ .closed) :
    post f s = s.setSau { s.sau with live := f s.sau.live } := by simp [post, h]
theorem post_closed {f : ShiftRecord → ShiftRecord} {s : State} (h : s.sau.shift = .closed) : post f s = s := by
  simp [post, h]

/-- A step that falls never raises the display lag count, and charges only against a count above 0 (R45, R73). -/
theorem chargeStep_lag_le (n : Nat) (a : Accrual) : (chargeStep n a).lag ≤ a.lag := by
  unfold chargeStep
  split
  · exact Nat.sub_le _ _
  · exact Nat.le_refl _

@[simp] theorem switchTariff_lag (a : Accrual) : (switchTariff a).lag = a.lag := by unfold switchTariff; split <;> rfl
@[simp] theorem switchTariff_fare (a : Accrual) : (switchTariff a).hire.fare = a.hire.fare := by
  unfold switchTariff; split <;> rfl

end Sys2Proof.Machine
end

