-- ==== Sys2Proof/Laws/Link.lean ====
section
/-! SUPPORT. What the receiver of the console link makes of a whole frame (R178 to R180), and the kind and the field bytes of
a request. -/

namespace Sys2Proof.Machine

/-- Two bytes are read back as the number they were written from (R202). -/
theorem beValue_be_two {n : Nat} (h : n < 65536) : beValue (be 2 n) = n := by
  simp only [be, beValue, List.foldl_cons, List.foldl_nil, BitVec.toNat_ofNat]
  omega

/-- The bytes of a frame that its CRC is taken over: length, kind and body (R180). -/
theorem lengthField_be {n : Nat} (h : n < 65536) (rest : List Byte) : lengthField (be 2 n ++ rest) = n := by
  have : (be 2 n ++ rest).take 2 = be 2 n := List.take_left' rfl
  rw [lengthField, this, beValue_be_two h]

/-- The bytes of a field are those its number is written with (R202). -/
theorem be_two_beValue (a b : Byte) : be 2 (beValue [a, b]) = [a, b] := by
  simp only [be, beValue, List.foldl_cons, List.foldl_nil, List.cons.injEq, and_true]
  constructor <;> apply BitVec.eq_of_toNat_eq <;> simp only [BitVec.toNat_ofNat] <;> omega

/-- The bytes of a field are those its number is written with (R202). -/
theorem be_four_beValue (a b c d : Byte) : be 4 (beValue [a, b, c, d]) = [a, b, c, d] := by
  simp only [be, beValue, List.foldl_cons, List.foldl_nil, List.cons.injEq, and_true]
  refine ⟨?_, ?_, ?_, ?_⟩ <;> apply BitVec.eq_of_toNat_eq <;> simp only [BitVec.toNat_ofNat] <;> omega

/-- The receiver inside a frame, with the bytes taken so far. -/
def inFrame (rx : RxState) (bytes : List Byte) (s : State) : State := s.setClc { s.clc with rx := rx, bytes := bytes }

theorem powered_inFrame {rx : RxState} {bytes : List Byte} {s : State} (h : powered s = true) :
    powered (inFrame rx bytes s) = true := h

/-- Bytes of the kind and body are collected until their number is the length field, and CHECK is entered at the last
(R178). -/
theorem hear_body (s : State) (hp : powered s = true) :
    ∀ (more got : List Byte), more ≠ [] → got.length + more.length = 2 + lengthField (got ++ more) → 2 ≤ got.length →
      more.foldl hearByte (inFrame .body got s) = inFrame .check (got ++ more) s
  | [], _, h, _, _ => absurd rfl h
  | b :: more, got, _, hl, h2 => by
    have hf : ∀ l, lengthField (got ++ l) = lengthField got := fun l => by
      simp only [lengthField, List.take_append_of_le_length h2]
    rw [hf] at hl
    have step : hearByte (inFrame .body got s) b
        = inFrame (if (got ++ [b]).length < 2 + lengthField (got ++ [b]) then .body else .check) (got ++ [b]) s := by
      rw [hearByte_powered (powered_inFrame hp)]
      rfl
    rw [List.foldl_cons, step, hf]
    cases more with
    | nil =>
      simp only [List.length_cons, List.length_nil] at hl
      rw [if_neg (by simp only [List.length_append, List.length_cons, List.length_nil]; omega)]
      rfl
    | cons c rest =>
      simp only [List.length_cons] at hl
      rw [if_pos (by simp only [List.length_append, List.length_cons, List.length_nil]; omega)]
      have ih := hear_body s hp (c :: rest) (got ++ [b]) (by simp)
        (by rw [List.append_assoc, hf]; simp only [List.length_append, List.length_cons, List.length_nil]; omega)
        (by simp only [List.length_append]; omega)
      rw [ih, List.append_assoc]
      rfl

/-- A whole frame heard from HUNT on is completed with its bytes (R178). -/
theorem hear_frame (s : State) (kind x y : Byte) (body : List Byte) (hp : powered s = true) (hh : s.clc.rx = .hunt)
    (hb : body.length ≤ 259) :
    (0xC5 :: (be 2 (body.length + 1) ++ kind :: body ++ [x, y])).foldl hearByte s
      = completeFrame (be 2 (body.length + 1) ++ kind :: body ++ [x, y])
          (inFrame .check (be 2 (body.length + 1) ++ kind :: body ++ [x]) s) := by
  have hn : body.length + 1 < 65536 := by omega
  have e0 : hearByte s 0xC5 = inFrame .length [] s := by
    rw [hearByte_powered hp]
    simp only [receiveByte, hh]
    rfl
  obtain ⟨hi, lo, hbe⟩ : ∃ hi lo, be 2 (body.length + 1) = [hi, lo] := ⟨_, _, rfl⟩
  have hv : beValue [hi, lo] = body.length + 1 := by rw [← hbe, beValue_be_two hn]
  have e1 : hearByte (inFrame .length [] s) hi = inFrame .length [hi] s := by
    rw [hearByte_powered (powered_inFrame hp)]
    rfl
  have e2 : hearByte (inFrame .length [hi] s) lo = inFrame .body [hi, lo] s := by
    rw [hearByte_powered (powered_inFrame hp)]
    change checkLength [hi, lo] (inFrame .length [hi] s) = _
    have hl : lengthField [hi, lo] = body.length + 1 := hv
    unfold checkLength
    simp only [hl]
    rw [if_neg (by omega)]
    rfl
  have hlf : ∀ l, lengthField (hi :: lo :: l) = body.length + 1 := fun l => by
    simpa [lengthField] using hv
  have e3 := hear_body s hp (kind :: body) [hi, lo] (by simp)
    (by change _ = 2 + lengthField (hi :: lo :: (kind :: body)); rw [hlf]; simp only [List.length_cons, List.length_nil]) (by simp)
  have e4 : hearByte (inFrame .check ([hi, lo] ++ kind :: body) s) x
      = inFrame .check ([hi, lo] ++ kind :: body ++ [x]) s := by
    rw [hearByte_powered (powered_inFrame hp)]
    change (if ([hi, lo] ++ kind :: body ++ [x]).length < 4 + lengthField (hi :: lo :: (kind :: body ++ [x])) then _
      else _) = _
    rw [hlf, if_pos (by simp only [List.length_append, List.length_cons, List.length_nil]; omega)]
    rfl
  have e5 : hearByte (inFrame .check ([hi, lo] ++ kind :: body ++ [x]) s) y
      = completeFrame ([hi, lo] ++ kind :: body ++ [x, y]) (inFrame .check ([hi, lo] ++ kind :: body ++ [x]) s) := by
    rw [hearByte_powered (powered_inFrame hp)]
    change (if ([hi, lo] ++ kind :: body ++ [x] ++ [y]).length
      < 4 + lengthField (hi :: lo :: (kind :: body ++ [x] ++ [y])) then _ else _) = _
    rw [hlf, if_neg (by simp only [List.length_append, List.length_cons, List.length_nil]; omega)]
    change completeFrame ([hi, lo] ++ kind :: body ++ [x] ++ [y]) _ = _
    rw [List.append_assoc _ [x] [y]]
    rfl
  rw [hbe]
  rw [List.foldl_cons, e0, List.foldl_append, List.foldl_append]
  have e12 : [hi, lo].foldl hearByte (inFrame .length [] s) = inFrame .body [hi, lo] s := by
    rw [List.foldl_cons, e1, List.foldl_cons, e2, List.foldl_nil]
  rw [e12, e3, List.foldl_cons, e4, List.foldl_cons, e5, List.foldl_nil]

/-- A whole frame heard from HUNT on: with a correct CRC it is placed, with a wrong one it is counted and rejected with its
kind; while a RESTART waits for its start neither is answered (R178, R180, R182, R193). -/
theorem hear_whole_frame (s : State) (kind x y : Byte) (body : List Byte) (hp : powered s = true)
    (hh : s.clc.rx = .hunt) (hb : body.length ≤ 259) :
    (0xC5 :: (be 2 (body.length + 1) ++ kind :: body ++ [x, y])).foldl hearByte s
      = if [x, y] = be 2 (crc16 (be 2 (body.length + 1) ++ kind :: body)).toNat then
          unlessRestarting (placeFrame ⟨kind, body⟩) (s.setClc { s.clc with bytes := [] })
        else
          unlessRestarting (placeReject .check (some kind))
            (s.setClc { s.clc with bytes := [], checkCount := satAdd max16 s.clc.checkCount 1 }) := by
  have hn : body.length + 1 < 65536 := by omega
  rw [hear_frame s kind x y body hp hh hb]
  have hl : lengthField (be 2 (body.length + 1) ++ kind :: body ++ [x, y]) = body.length + 1 := by
    rw [List.append_assoc, lengthField_be hn]
  have hlen : (be 2 (body.length + 1) ++ kind :: body).length = 2 + (body.length + 1) := by
    have h2 : (be 2 (body.length + 1)).length = 2 := rfl
    rw [List.length_append, h2, List.length_cons]
  have ht : (be 2 (body.length + 1) ++ kind :: body ++ [x, y]).take (2 + (body.length + 1))
      = be 2 (body.length + 1) ++ kind :: body := by
    rw [← hlen, List.take_left' rfl]
  have hd : (be 2 (body.length + 1) ++ kind :: body ++ [x, y]).drop (2 + (body.length + 1)) = [x, y] := by
    rw [← hlen, List.drop_left' rfl]
  have hk : ((be 2 (body.length + 1) ++ kind :: body).drop 2).headD 0 = kind := rfl
  have hbody : (be 2 (body.length + 1) ++ kind :: body).drop 3 = body := rfl
  have hs : toHunt (inFrame .check (be 2 (body.length + 1) ++ kind :: body ++ [x]) s)
      = s.setClc { s.clc with bytes := [] } := by
    have hc : ({ s.clc with rx := .hunt, bytes := [] } : Clc) = { s.clc with bytes := [] } := by rw [← hh]
    change s.setClc { s.clc with rx := .hunt, bytes := [] } = _
    rw [hc]
  unfold completeFrame
  simp only [hl, ht, hd, hk, hbody, hs]
  rfl

/-- The frame that a console sends is heard as its kind and body (R178, R180, R182). -/
theorem hear_linkFrame (s : State) (kind : Byte) (body : List Byte) (hp : powered s = true) (hh : s.clc.rx = .hunt)
    (hb : body.length ≤ 259) :
    (linkFrame 0xC5 kind body).foldl hearByte s
      = unlessRestarting (placeFrame ⟨kind, body⟩) (s.setClc { s.clc with bytes := [] }) := by
  obtain ⟨x, y, hxy⟩ : ∃ x y, be 2 (crc16 (be 2 (body.length + 1) ++ kind :: body)).toNat = [x, y] := ⟨_, _, rfl⟩
  have h := hear_whole_frame s kind x y body hp hh hb
  rw [if_pos hxy.symm] at h
  rw [← h]
  change List.foldl hearByte s (0xC5 :: (be 2 (body.length + 1) ++ kind :: body
    ++ be 2 (crc16 (be 2 (body.length + 1) ++ kind :: body)).toNat)) = _
  rw [hxy]

/-! ## The kind of a request -/

/-- The request kind of a command (Table 11-8); 0 for one that is no request. -/
def requestKind : Instr → Nat
  | .getNotice => 0x01 | .setNoticeEnables _ => 0x02 | .identify => 0x03 | .status => 0x04 | .restart => 0x05
  | .getTime => 0x06 | .setTime .. => 0x07 | .calBegin => 0x10 | .calEnd _ => 0x11 | .calAbort => 0x12 | .setK _ => 0x13
  | .stageTariffSet .. => 0x18 | .stageTariffRemove _ => 0x18 | .stageBandAdd .. => 0x19 | .stageBandRemove .. => 0x19
  | .stageHolidayAdd .. => 0x1A | .stageHolidayRemove .. => 0x1A | .stageExtraSet .. => 0x1B | .stageExtraRemove _ => 0x1B
  | .clearStagedEmpty => 0x1C | .clearStagedCopyActive => 0x1C | .commitTariffs => 0x1D | .readTariff .. => 0x1E
  | .readBand .. => 0x1F | .readHoliday .. => 0x20 | .readExtra .. => 0x21 | .readSet _ => 0x22
  | .hireStart .. => 0x28 | .hireStop _ => 0x29 | .hireResume _ => 0x2A | .setHireTariff .. => 0x2B | .addExtra .. => 0x2C
  | .removeExtra .. => 0x2D | .hireAbandon _ => 0x2E | .hireRead _ => 0x2F | .takeView => 0x30 | .shown _ => 0x31
  | .presentCard _ => 0x38 | .cancelPayment _ => 0x39 | .nextAuth => 0x3A | .verdictApprove .. => 0x3B
  | .verdictDecline .. => 0x3B | .verdictDefer .. => 0x3B | .authRead _ => 0x3C | .cashTender .. => 0x3D
  | .accountTender .. => 0x3E | .deferredOutcome .. => 0x3F | .deferredRead _ => 0x40 | .shiftOpen .. => 0x48
  | .shiftBreak => 0x49 | .shiftResume => 0x4A | .shiftClose => 0x4B | .summaryFetch _ => 0x4C | .summaryRelease _ => 0x4D
  | .totalsRead => 0x4E | .signConfig .. => 0x58 | .signText _ => 0x59 | .alertClear => 0x5A | .signHold => 0x5B
  | .signRelease => 0x5C | .lampTest => 0x5D | .signRead => 0x5E | .icFloor _ => 0x68 | .icLoop _ => 0x69
  | .icTestStart => 0x6A | .icTestStop => 0x6B | .icInsertError => 0x6C | .icHold => 0x6D | .icConfig .. => 0x6E
  | .icRelease => 0x6F | .icRead => 0x70
  | _ => 0

theorem parseLow_kind {k : Nat} {b : List Byte} {c : Instr} (h : parseLow k b = .request c) : k = requestKind c := by
  unfold parseLow at h
  split at h <;> first
    | cases h
    | (simp only [body0, body1, body2, bodyWord, parseEnables, parseSetTime, parseStageTariff, parseStageBand,
        parseStageHoliday, parseStageExtra, parseClearStaged] at h
       (repeat' split at h) <;> first | (injection h with h; subst h; rfl) | cases h)

theorem parseMiddle_kind {k : Nat} {b : List Byte} {c : Instr} (h : parseMiddle k b = .request c) :
    k = requestKind c := by
  unfold parseMiddle at h
  split at h <;> first
    | cases h
    | (simp only [body0, body1, body2, body3, body4, bodyWord, parseAddExtra, parseVerdict, parseCashTender,
        parseAccountTender, parseShiftOpen] at h
       (repeat' split at h) <;> first | (injection h with h; subst h; rfl) | cases h)

theorem parseHigh_kind {k : Nat} {b : List Byte} {c : Instr} (h : parseHigh k b = .request c) : k = requestKind c := by
  unfold parseHigh at h
  split at h <;> first
    | cases h
    | (simp only [body0, body1, body4, parseSignText] at h
       (repeat' split at h) <;> first | (injection h with h; subst h; rfl) | cases h)

/-- A request comes from frames of one kind only (Table 11-8). -/
theorem parseRequest_kind {k : Byte} {b : List Byte} {c : Instr} (h : parseRequest k b = .request c) :
    k.toNat = requestKind c := by
  unfold parseRequest at h
  dsimp only at h
  split at h
  · exact parseLow_kind h
  · split at h
    · exact parseMiddle_kind h
    · exact parseHigh_kind h

end Sys2Proof.Machine
end

