-- ==== Sys2Proof/Laws/Rear.lean ====
section
/-! SUPPORT. The frames of the rear link (R156): what the hunt for the sync byte finds, and the check byte of a reply. -/

namespace Sys2Proof.Machine

/-- The 64 bytes of a block are read back as its samples, whatever follows them. -/
theorem samplesOf_blockBytes (b : Block) (rest : List Byte) :
    samplesOf b.length (blockBytes b ++ rest) = some (b, rest) := by
  induction b with
  | nil => rfl
  | cons x l ih =>
    have h : (BitVec.ofNat 8 (x.toNat / 256 ^ 1) ++ BitVec.ofNat 8 (x.toNat / 256 ^ 0) : BitVec 16) = x := by
      apply BitVec.eq_of_toNat_eq
      have := x.isLt
      simp only [BitVec.toNat_append, BitVec.toNat_ofNat]
      rw [← Nat.shiftLeft_add_eq_or_of_lt (by omega)]
      omega
    change Option.map _ (samplesOf l.length (blockBytes l ++ rest)) = _
    rw [ih, Option.map_some, h]

/-- Too few bytes make no samples. -/
theorem samplesOf_short : ∀ (n : Nat) (bs : List Byte), bs.length < 2 * n → samplesOf n bs = none
  | 0, bs, h => by simp at h
  | n + 1, [], _ => rfl
  | n + 1, [_], _ => rfl
  | n + 1, hi :: lo :: rest, h => by
    have := samplesOf_short n rest (by simp at h; omega)
    simp [samplesOf, this]

/-- Enough bytes make samples, and the bytes beyond them are left. -/
theorem samplesOf_enough : ∀ (n : Nat) (bs : List Byte), 2 * n ≤ bs.length →
    ∃ r, samplesOf n bs = some r ∧ r.2.length = bs.length - 2 * n
  | 0, bs, _ => ⟨([], bs), rfl, by simp⟩
  | n + 1, [], h => by simp at h
  | n + 1, [_], h => by simp at h; omega
  | n + 1, hi :: lo :: rest, h => by
    obtain ⟨r, hr, hl⟩ := samplesOf_enough n rest (by simp at h; omega)
    exact ⟨_, by simp only [samplesOf, hr]; rfl, by simp [hl]; omega⟩

/-- What is left after n samples. -/
theorem samplesOf_rest : ∀ (n : Nat) (bs : List Byte) (r : Block × List Byte), samplesOf n bs = some r →
    r.2.length + 2 * n = bs.length
  | 0, bs, r, h => by simp [samplesOf] at h; simp [← h]
  | n + 1, [], r, h => by simp [samplesOf] at h
  | n + 1, [_], r, h => by simp [samplesOf] at h
  | n + 1, hi :: lo :: rest, r, h => by
    simp only [samplesOf, Option.map_eq_some_iff] at h
    obtain ⟨x, hx, rfl⟩ := h
    have := samplesOf_rest n rest x hx
    simp
    omega

/-- Sixty-seven bytes make a frame. -/
theorem rearFrameOf_frame (x c k : Byte) (b : Block) (hb : b.length = 32) :
    rearFrameOf (x :: c :: (blockBytes b ++ [k])) = some ⟨c, b, k⟩ := by
  have h := samplesOf_blockBytes b [k]
  rw [hb] at h
  simp only [rearFrameOf, h]

/-- Fewer than 67 bytes make no frame. -/
theorem rearFrameOf_short (bytes : List Byte) (h : bytes.length < 67) : rearFrameOf bytes = none := by
  match bytes, h with
  | [], _ => rfl
  | [_], _ => rfl
  | _ :: c :: rest, h =>
    simp only [rearFrameOf]
    split
    · rename_i b k l heq
      have := samplesOf_rest 32 rest _ heq
      simp at this h
      omega
    · rfl

/-- A block of 32 samples has 64 bytes. -/
theorem blockBytes_length (b : Block) : (blockBytes b).length = 2 * b.length := by
  induction b with
  | nil => rfl
  | cons x l ih =>
    have h : (blockBytes (x :: l)).length = 2 + (blockBytes l).length := by
      simp only [blockBytes, List.flatMap_cons, List.length_append]
      rfl
    rw [h, ih, List.length_cons]
    omega

/-- While the PIU hunts, bytes without a sync byte are discarded (R156). -/
theorem hunt_noise (s : State) (noise : List Byte) (h : s.piu.begun = []) (hn : ∀ x ∈ noise, x ≠ 0xA7) :
    noise.foldl hearRearByte s = s := by
  induction noise with
  | nil => rfl
  | cons x l ih =>
    have hx : hearRearByte s x = s := by 
      rw [hearRearByte, if_pos ⟨h, hn x (by simp)⟩]
    rw [List.foldl_cons, hx]
    exact ih fun b hb => hn b (by simp [hb])

/-- The sync byte begins a frame (R156). -/
theorem hunt_sync (s : State) (h : s.piu.begun = []) :
    hearRearByte s 0xA7 = s.setPiu { s.piu with begun := [0xA7] } := by
  simp [hearRearByte, h, rearSync, rearFrameOf]

/-- A frame that has begun takes every byte until it has 67 (R156). -/
theorem begun_takes (s : State) (bytes : List Byte) (h : s.piu.begun ≠ [])
    (hl : s.piu.begun.length + bytes.length < 67) :
    bytes.foldl hearRearByte s = s.setPiu { s.piu with begun := s.piu.begun ++ bytes } := by
  induction bytes generalizing s with
  | nil => simp [State.setPiu]
  | cons x l ih =>
    have hf : rearFrameOf (s.piu.begun ++ [x]) = none := by
      apply rearFrameOf_short
      simp at hl ⊢
      omega
    have hx : hearRearByte s x = s.setPiu { s.piu with begun := s.piu.begun ++ [x] } := by
      simp [hearRearByte, h, hf]
    rw [List.foldl_cons, hx, ih _ (by simp) (by simp at hl ⊢; omega)]
    simp [State.setPiu]

/-- The sync byte and fewer than 66 bytes after it are kept (R156). -/
theorem hunt_begin (s : State) (rest : List Byte) (h : s.piu.begun = []) (hl : rest.length < 66) :
    (0xA7 :: rest).foldl hearRearByte s = s.setPiu { s.piu with begun := 0xA7 :: rest } := by
  rw [List.foldl_cons, hunt_sync s h, begun_takes _ rest (by simp) (by simp; omega)]
  simp [State.setPiu]

/-- The bytes of a whole frame, received while the PIU hunts, are that frame (R156). -/
theorem hunt_frame (s : State) (c k : Byte) (b : Block) (h : s.piu.begun = []) (hb : b.length = 32) :
    (0xA7 :: c :: (blockBytes b ++ [k])).foldl hearRearByte s = takeRearFrame c b k s := by
  have hl : (c :: blockBytes b).length < 66 := by simp [blockBytes_length, hb]
  have hs : s.setPiu { s.piu with begun := [] } = s := by rw [← h]; rfl
  have e : 0xA7 :: c :: (blockBytes b ++ [k]) = (0xA7 :: (c :: blockBytes b)) ++ [k] := by simp
  rw [e, List.foldl_append, hunt_begin s _ h hl, List.foldl_cons, List.foldl_nil]
  simp only [hearRearByte, State.setPiu_piu, List.cons_append, rearFrameOf_frame 0xA7 c k b hb, reduceCtorEq, false_and,
    if_false]
  rw [show (s.setPiu { s.piu with begun := 0xA7 :: c :: blockBytes b }).setPiu
    { ({ s.piu with begun := 0xA7 :: c :: blockBytes b } : Piu) with begun := [] } = s.setPiu { s.piu with begun := [] }
    from rfl, hs]

/-! ### A frame taken leaves the hunt as it is -/

theorem raiseSlip_begun (b : Bool) (s : State) : (raiseSlip b s).piu.begun = s.piu.begun := by
  unfold raiseSlip; split <;> simp

theorem linkRear_begun (s : State) : (linkRear s).piu.begun = s.piu.begun := by
  unfold linkRear; split <;> simp

theorem arriveRear_begun (b : Block) (s : State) : (arriveRear b s).piu.begun = s.piu.begun := by
  unfold arriveRear; split
  · rfl
  · exact raiseSlip_begun _ _

theorem takeCall_begun (p : Bool) (s : State) : (takeCall p s).piu.begun = s.piu.begun := by
  unfold takeCall; dsimp only; split
  · split <;> simp
  · simp

theorem takeLoopCode_begun (c : Byte) (s : State) : (takeLoopCode c s).piu.begun = s.piu.begun := by
  unfold takeLoopCode
  extract_lets up down run
  split
  · rfl
  · split <;> rfl

theorem takeChecked_begun (b : Block) (s : State) : (takeChecked b s).piu.begun = s.piu.begun := by
  unfold takeChecked; dsimp only; split
  · split
    · split <;> simp
    · split
      · simp
      · split <;> simp
  · rfl

theorem rearReply_begun (b : Block) (s : State) : (rearReply b s).piu.begun = s.piu.begun := by
  unfold rearReply; dsimp only; split
  · simp
  · rw [raiseSlip_begun]; split <;> simp

theorem takeRearFrame_begun (c k : Byte) (b : Block) (s : State) : (takeRearFrame c b k s).piu.begun = s.piu.begun := by
  unfold takeRearFrame; split
  · simp [takeValidFrame, rearReply_begun, takeChecked_begun, takeLoopCode_begun, takeCall_begun, arriveRear_begun,
      linkRear_begun]
  · unfold takeDamagedFrame; dsimp only; split <;> simp [rearReply_begun, takeChecked_begun]

/-- A byte leaves at most the 66 bytes of a frame that lacks one (R156). -/
theorem hearRearByte_begun (s : State) (b : Byte) (h : s.piu.begun.length ≤ 66) :
    (hearRearByte s b).piu.begun.length ≤ 66 := by
  unfold hearRearByte; split
  · exact h
  · split
    · rw [takeRearFrame_begun]; simp
    · rename_i hn
      by_cases hl : s.piu.begun.length = 66
      · obtain ⟨x, c, rest, he⟩ : ∃ x c rest, s.piu.begun ++ [b] = x :: c :: rest := by
          match hb : s.piu.begun, hl with
          | x :: c :: rest, _ => exact ⟨x, c, rest ++ [b], by simp⟩
        have hr : rest.length = 65 := by
          have := congrArg List.length he
          simp [hl] at this
          omega
        rw [he] at hn
        obtain ⟨r, hs, hr2⟩ := samplesOf_enough 32 rest (by omega)
        simp only [rearFrameOf, hs] at hn
        match hc : r.2, hr2 with
        | k :: more, _ => 
          obtain ⟨r1, r2⟩ := r
          simp only at hc
          subst hc
          simp at hn
        | [], h0 => simp [hr] at h0
      · simp
        omega

/-- A row whose bytes hold one whole frame between bytes without a sync byte is that frame (R156). -/
theorem hearRear_frame (s : State) (noise more : List Byte) (c k : Byte) (b : Block) (h : s.piu.begun = [])
    (hn : ∀ x ∈ noise, x ≠ 0xA7) (hb : b.length = 32) (hm : ∀ x ∈ more, x ≠ 0xA7) :
    hearRear (noise ++ 0xA7 :: c :: (blockBytes b ++ k :: more)) s = takeRearFrame c b k (beforeRow s) := by
  have e : noise ++ 0xA7 :: c :: (blockBytes b ++ k :: more) =
      noise ++ ((0xA7 :: c :: (blockBytes b ++ [k])) ++ more) := by simp
  rw [hearRear, e, List.foldl_append, List.foldl_append, hunt_noise (beforeRow s) noise h hn,
    hunt_frame (beforeRow s) c k b h hb, hunt_noise _ more (by rw [takeRearFrame_begun]; exact h) hm]

/-- A change made by a row is made by one of its parts. -/
theorem rearChange_append (change : Piu → Piu → Bool) (xs ys : List Byte) (s : State) :
    rearChange change (xs ++ ys) s = (rearChange change xs s || rearChange change ys (xs.foldl hearRearByte s)) := by
  induction xs generalizing s with
  | nil => rfl
  | cons x l ih => simp [rearChange, ih, Bool.or_assoc]

/-- A row named for a change that its one frame makes is that frame (R168 to R170). -/
theorem rearFrameIf_frame (change : Piu → Piu → Bool) (s : State) (noise more : List Byte) (c k : Byte) (b : Block)
    (h : s.piu.begun = []) (hn : ∀ x ∈ noise, x ≠ 0xA7) (hb : b.length = 32) (hm : ∀ x ∈ more, x ≠ 0xA7)
    (hc : change { s.piu with begun := 0xA7 :: c :: blockBytes b, rlo := [] }
      (takeRearFrame c b k (beforeRow s)).piu = true) :
    rearFrameIf change (noise ++ 0xA7 :: c :: (blockBytes b ++ k :: more)) s = takeRearFrame c b k (beforeRow s) := by
  have hl : (c :: blockBytes b).length < 66 := by simp [blockBytes_length, hb]
  have hf := hunt_frame (beforeRow s) c k b h hb
  rw [show 0xA7 :: c :: (blockBytes b ++ [k]) = (0xA7 :: (c :: blockBytes b)) ++ [k] by simp, List.foldl_append,
    hunt_begin (beforeRow s) _ h hl] at hf
  rw [rearFrameIf, if_pos, hearRear_frame s noise more c k b h hn hb hm]
  rw [show noise ++ 0xA7 :: c :: (blockBytes b ++ k :: more) = noise ++ ((0xA7 :: (c :: blockBytes b)) ++ k :: more) by
    simp, rearChange_append, rearChange_append, hunt_noise (beforeRow s) noise h hn, hunt_begin (beforeRow s) _ h hl]
  generalize hu : (beforeRow s).setPiu { (beforeRow s).piu with begun := 0xA7 :: c :: blockBytes b } = u at hf ⊢
  rw [show rearChange change (k :: more) u =
    (change u.piu (hearRearByte u k).piu || rearChange change more (hearRearByte u k)) from rfl,
    show hearRearByte u k = takeRearFrame c b k (beforeRow s) from hf,
    show u.piu = { s.piu with begun := 0xA7 :: c :: blockBytes b, rlo := [] } by rw [← hu]; rfl, hc]
  simp

/-- A frame spread over two rows is the frame in one of them: a row goes on where the bytes begun ended (R156). -/
theorem hearRear_begun (s : State) (pre bytes : List Byte) (h : s.piu.begun = 0xA7 :: pre) (hl : pre.length < 66) :
    hearRear bytes s = hearRear (0xA7 :: (pre ++ bytes)) (s.setPiu { s.piu with begun := [] }) := by
  have e : 0xA7 :: (pre ++ bytes) = (0xA7 :: pre) ++ bytes := rfl
  rw [hearRear, hearRear, e, List.foldl_append, hunt_begin _ pre rfl hl]
  congr 1
  rw [← h]
  rfl

/-- The check byte of a frame brings its sum to 0, so that the sum of all its bytes is the sync byte (R156). -/
theorem rearFrameBytes_sum (c : Byte) (b : Block) : (rearFrameBytes c b).foldl (· + ·) 0 = 0xA7 := by
  have h : ∀ (l : List Byte) (x : Byte), l.foldl (· + ·) x = x + l.foldl (· + ·) 0 := by
    intro l
    induction l with
    | nil => simp
    | cons y l ih =>
      intro x
      rw [List.foldl_cons, List.foldl_cons, ih (x + y), ih (0 + y)]
      simp [BitVec.add_assoc]
  simp only [rearFrameBytes, checkByte, List.foldl_cons, List.foldl_append, List.foldl_nil]
  rw [h (blockBytes b) (0 + rearSync + c), h (blockBytes b) (0 + c)]
  simp only [rearSync]
  bv_omega

/-- The bytes of the reply as they stand on RLO. -/
theorem rearFrameBytes_eq (c : Byte) (b : Block) :
    ∃ k, rearFrameBytes c b = 0xA7 :: c :: (blockBytes b ++ [k]) := ⟨_, rfl⟩

end Sys2Proof.Machine
end

