-- ==== Sys2Proof/Laws/Starts.lean ====
section
/-! SUPPORT. What the start of each link-facing block leaves, as one update of the fields it writes (R78, R112, R154, R177,
R193), and what a supply failure leaves of the notices. -/

namespace Sys2Proof.Machine

/-- A condition that begins if it holds, and else stands. -/
def Notice.beginsIf (n : Notice) (b : Bool) : Notice := if b then n.begins else n

/-- A condition reported at a start whose notice set has just been cleared (R187, R193). -/
@[simp] theorem Notice.beginsIf_clear (b : Bool) : Notice.beginsIf ⟨true, false, 0, false⟩ b = ⟨true, b, 0, b⟩ := by
  cases b <;> rfl

/-- The CLC at a RESTART (R193). -/
theorem startClc_restarted (times : StartTimes) (s : State) :
    startClc .restarted times s = s.setClc
      { rx := .hunt, bytes := [], buffer := none, answer := none, owed := [], gapCount := 0, overrunCount := 0
        lengthCount := 0, checkCount := 0, supplyDetail := some times
        notices := { NoticeSet.clear with supply := ⟨true, true, 4, false⟩ } } := by
  have h : Notice.addReason ⟨true, false, 0, false⟩ 2 = ⟨true, true, 4, false⟩ := by decide
  rw [← h]
  rfl

/-- The STU's report of AUTH_WAITING (R112). -/
theorem reportWaiting_eq (s : State) :
    reportWaiting s = s.setClc { s.clc with
      notices := { s.clc.notices with authWaiting := s.clc.notices.authWaiting.beginsIf (authWaiting s) } } := by
  unfold reportWaiting Notice.beginsIf
  split <;> rfl

/-- The VBU at a start (R77, R78). -/
theorem startView_eq (s : State) :
    startView s =
      ((s.setVbu { s.vbu with
          bufA := some ⟨(s.vbu.seq + 1) % 65536, s.cku.now, viewEntries s.fen.slots⟩, bufB := none, bufC := none
          write := .B, ready := .A, console := .C, seq := (s.vbu.seq + 1) % 65536, overwritten := 0 }).setTransit
        { s.transit with vbu := [] }).setClc { s.clc with
          notices := { s.clc.notices with
            displayStale := s.clc.notices.displayStale.beginsIf (s.vbu.lagCount == 0) } } := by
  have h : displayStale ((s.setVbu (s.vbu.start s.cku.now (viewEntries s.fen.slots))).setTransit
      { s.transit with vbu := [] }) = (s.vbu.lagCount == 0) := rfl
  unfold startView Notice.beginsIf
  simp only [h]
  split <;> rfl

/-- The entries that a full refresh makes in an empty list of modules none of which is FAULTY (R138). -/
def freshList (roles : Roles (Option Nat)) (image : Roles Content) : List UpdateEntry :=
  ([Role.alert, .availability, .seats, .text].filter fun r => (roles.get r).isSome).map
    fun r => ⟨r, image.get r, 0, false, none, false⟩

/-- A full refresh of an empty list (R138). -/
theorem fullRefresh_empty {s : State} (hl : s.sgu.list = []) (hm : ∀ r, s.rbc.modules.get r ≠ some .faulty) :
    fullRefresh s = s.setSgu { s.sgu with list := freshList s.sgu.roles s.sgu.desired } := by
  have hm' : ∀ r, (s.rbc.modules.get r == some .faulty) = false := fun r => by simpa using hm r
  simp only [fullRefresh, List.foldl, hl, hm', freshList]
  rcases h1 : (s.sgu.roles.get .alert).isSome <;> rcases h2 : (s.sgu.roles.get .availability).isSome <;>
    rcases h3 : (s.sgu.roles.get .seats).isSome <;> rcases h4 : (s.sgu.roles.get .text).isSome <;>
    simp [enqueue, h1, h2, h3, h4]

/-- No module just configured is FAULTY. -/
theorem unknownModules_ne_faulty (roles : Roles (Option Nat)) (r : Role) : (unknownModules roles).get r ≠ some .faulty := by
  simp [unknownModules]

/-- The SGU's report of ALERT (R154). -/
theorem reportAlert_eq (s : State) :
    (if s.sgu.latch then condBegin .alert s else s) = s.setClc { s.clc with
      notices := { s.clc.notices with alert := s.clc.notices.alert.beginsIf s.sgu.latch } } := by
  unfold Notice.beginsIf
  split <;> rfl

/-- The SGU and the RBC at a start (R154). -/
theorem startSign_eq (s : State) :
    startSign s =
      ((s.setSgu { s.sgu with
          text := [], label := scheduledLabel s
          desired := desiredImage (s.setSgu { s.sgu with text := [], list := [], label := scheduledLabel s })
          list := if s.sgu.roles.availability.isSome then
              freshList s.sgu.roles
                (desiredImage (s.setSgu { s.sgu with text := [], list := [], label := scheduledLabel s }))
            else [] }).setRbc { s.rbc with
          acked := ⟨none, none, none, none⟩, modules := unknownModules s.sgu.roles, probe := ⟨none, none, none, none⟩
          controller := if s.sgu.roles.availability.isSome then .running else .held
          holdPending := false, phase := none, busBusy := true, idleOnly := true, arbLoss := 0, flight := none
          sending := [], arbWait := false, recovering := false, lampTries := 0, lampRetry := none, litLeft := 0
          lampCut := false }).setClc { s.clc with
          notices := { s.clc.notices with alert := s.clc.notices.alert.beginsIf s.sgu.latch } } := by
  refine (reportAlert_eq _).trans ?_
  obtain ⟨clc, miu, cku, tfs, fen, vbu, stu, tlc, sau, ⟨⟨a, b, c, d⟩, latch, text, label, desired, list⟩, rbc, piu, smr, transit,
    free, pending⟩ := s
  cases a with
  | none => rfl
  | some n =>
    simp only [State.setSgu_sgu, State.setRbc_sgu, State.setRbc_rbc, State.setSgu_rbc, Option.isSome_some, if_true]
    rw [fullRefresh_empty (by rfl) (fun r => unknownModules_ne_faulty _ r)]
    rfl

/-! ## Supply failure -/

/-- A report taken by the SAU leaves the console link as it is. -/
theorem postReport_clc (r : SecondReport) (s : State) : (postReport r s).clc = s.clc := by
  unfold postReport post; split <;> rfl

/-- So do several. -/
theorem postReports_clc (l : List SecondReport) (s : State) : (l.foldl (fun t r => postReport r t) s).clc = s.clc := by
  induction l generalizing s with
  | nil => rfl
  | cons x l ih => rw [List.foldl_cons, ih, postReport_clc]

/-- A supply failure with no event on its way to the FEN leaves the notices as they are (R193, R194). -/
theorem failSupply_notices (w : Bool) (s : State) (h : s.transit.fen = []) :
    (failSupply w s).clc.notices = s.clc.notices := by
  have e : (closePartial (drainEvents s)).clc = (drainEvents s).clc := by
    unfold closePartial
    rw [postReport_clc, show ∀ u : State, (suspendRunning u).clc = u.clc from fun _ => rfl, applyReport,
      if_neg (by simp [partialReport])]
    rfl
  have d : (drainEvents s).clc = s.clc := by
    rw [drainEvents, h]
    exact postReports_clc _ _
  rw [← d, ← e]
  rfl

end Sys2Proof.Machine
end

