-- ==== Sys2Proof/Tests/Slice0.lean ====
section
/-! SUPPORT. Tests of the model: ill-formed commands refused, worked examples of the manual, and for each statement states
and operands that meet its hypotheses together, clause by clause. -/

namespace Sys2Proof.Tests

-- One theorem at a time: many at once take one thread each, and the memory limit of the check bounds the threads.
set_option Elab.async false
open Sys2Proof.Machine

/-! ## Well-formed commands -/

/-- Thirteen characters. -/
def longLabel : List Byte := List.replicate 13 0x41

/-- One sample short of a block. -/
def shortBlock : Block := List.replicate 31 0

/-- One ill-formed field at a time. -/
def illFormedCalendar : List Instr :=
  [.setTime 1999 1 1 0 0 0, .setTime 2256 1 1 0 0 0, .setTime 2000 256 1 0 0 0, .setTime 2000 1 256 0 0 0,
    .setTime 2000 1 1 256 0 0, .setTime 2000 1 1 0 256 0, .setTime 2000 1 1 0 0 256, .calEnd 65536, .setK 65536,
    .stageTariffSet 256 0 0 0 0 0 0 0 [], .stageTariffSet 1 4294967296 0 0 0 0 0 0 [], .stageTariffSet 1 0 65536 0 0 0 0 0 [],
    .stageTariffSet 1 0 0 65536 0 0 0 0 [], .stageTariffSet 1 0 0 0 65536 0 0 0 [], .stageTariffSet 1 0 0 0 0 256 0 0 [],
    .stageTariffSet 1 0 0 0 0 0 256 0 [], .stageTariffSet 1 0 0 0 0 0 0 4294967296 [],
    .stageTariffSet 1 0 0 0 0 0 0 0 longLabel]

/-- One ill-formed field at a time. -/
def illFormedStaging : List Instr :=
  [.stageTariffRemove 256, .stageBandAdd 1 65536 1, .stageBandAdd 1 0 256, .stageBandRemove 1 65536,
    .stageHolidayAdd 1999 1 1, .stageHolidayAdd 2000 256 1, .stageHolidayAdd 2000 1 256, .stageHolidayRemove 2256 1 1,
    .stageHolidayRemove 2000 256 1, .stageHolidayRemove 2000 1 256, .stageExtraSet 256 0 0 0 [], .stageExtraSet 1 256 0 0 [],
    .stageExtraSet 1 0 4294967296 0 [], .stageExtraSet 1 0 0 256 [], .stageExtraSet 1 0 0 0 longLabel,
    .stageExtraRemove 256]

/-- One ill-formed field at a time. -/
def illFormedHires : List Instr :=
  [.readTariff 256 1, .readTariff 0 256, .readBand 256 0, .readBand 0 256, .readHoliday 256 0, .readHoliday 0 256,
    .readExtra 256 1, .readExtra 0 256, .readSet 256, .hireStart 256 1 0 1, .hireStart 0 256 0 1, .hireStart 0 1 256 1,
    .hireStart 0 1 0 256, .hireStop 256, .hireResume 256, .setHireTariff 256 0 1, .setHireTariff 0 256 1,
    .setHireTariff 0 0 256, .addExtra 256 1 1, .addExtra 0 256 1, .addExtra 0 1 4294967296, .removeExtra 256 0,
    .removeExtra 0 256, .hireAbandon 256, .hireRead 256]

/-- One ill-formed field at a time. -/
def illFormedPayments : List Instr :=
  [.shown 65536, .presentCard 256, .cancelPayment 256, .verdictApprove 256 none, .verdictApprove 1 (some []),
    .verdictDecline 256 none, .verdictDecline 1 (some []), .verdictDefer 256 none, .verdictDefer 1 (some []), .authRead 256,
    .cashTender 256 1, .cashTender 0 4294967296, .accountTender 256 [] 1, .accountTender 0 (List.replicate 9 0x31) 1,
    .accountTender 0 [] 4294967296, .deferredOutcome 256 0, .deferredOutcome 1 256, .deferredRead 256,
    .authDeadlineExpiry 256]

/-- One ill-formed field at a time. -/
def illFormedShifts : List Instr :=
  [.shiftOpen 4294967296 1 0 1 0 0, .shiftOpen 1 256 0 1 0 0, .shiftOpen 1 1 256 1 0 0, .shiftOpen 1 1 0 256 0 0,
    .shiftOpen 1 1 0 1 4294967296 0, .shiftOpen 1 1 0 1 0 4294967296, .summaryFetch 256, .summaryRelease 256,
    .signConfig 256 1 1 1, .signConfig 1 256 1 1, .signConfig 1 1 256 1, .signConfig 1 1 1 256,
    .signText (List.replicate 25 0x41), .holdOffExpiry 4, .probeTimerExpiry 4]

/-- One ill-formed field at a time. -/
def illFormedIntercom : List Instr :=
  [.frontCompletion shortBlock, .icFloor 256, .icLoop 256, .icConfig 256 0 0 0, .icConfig 0 256 0 0, .icConfig 0 0 256 0,
    .icConfig 0 0 0 256]

theorem test_illFormed_refused :
    [illFormedCalendar, illFormedStaging, illFormedHires, illFormedPayments, illFormedShifts, illFormedIntercom].all
      (fun l => l.all fun i => !WellFormed i) := by decide +kernel

theorem test_wellFormed_accepted :
    [Instr.setTime 2255 255 255 255 255 255, .stageTariffSet 255 4294967295 65535 65535 65535 255 255 4294967295
      (List.replicate 12 0x41), .signText (List.replicate 24 0x41), .verdictApprove 1 (some (List.replicate 6 0x41)),
      .frontCompletion silence, .holdOffExpiry 3].all WellFormed := by decide +kernel

/-! ## Worked examples of the manual -/

/-- The check value of the CRC over the digits 1 to 9 is 0x29B1 (R180). -/
theorem test_crc : crc16 [0x31, 0x32, 0x33, 0x34, 0x35, 0x36, 0x37, 0x38, 0x39] = 0x29B1 := by decide +kernel

/-- 1 January 2031 is a Wednesday, and 1 January 2000 a Saturday (R12). -/
theorem test_weekday : Date.weekday ⟨2031, 1, 1⟩ = .wed ∧ Date.weekday ⟨2000, 1, 1⟩ = .sat := by decide +kernel

/-- The clock wraps from the end of 2099 to the start of 2000 (R11). -/
theorem test_clockWraps : CalTime.next ⟨⟨2099, 12, 31⟩, 23, 59, 59⟩ = .epoch := by decide +kernel

/-- A run of 3,201 pulses over 400 m measures 8,003: 8,002.5, a half up (R6). -/
theorem test_measuredK : measuredK 3201 400 = 8003 := by decide +kernel

/-- The lamp transfers ALL_ON and NORMAL with their check bytes (R140, R148, R208). -/
theorem test_lampBytes : busTransfer 0 2 [] = [0, 2, 0, 0xFE] ∧ busTransfer 0 3 [] = [0, 3, 0, 0xFD] := by decide +kernel

/-- No word spells a command, and withFetchWord leaves the state as it is. -/
theorem test_noWord : decodeTableWord 8 0x12 = none ∧ (State.reset.withFetchWord 8 0x12).pending = [] := by decide +kernel

/-! ## States for the witnesses -/

def tariffOne : Tariff := ⟨1, 320, 20, 100, 30, 5, 75, 400, [], 15⟩

def setOne : TariffSet :=
  ⟨[tariffOne, { tariffOne with number := 2 }], [⟨0x7F, 360, 2⟩], [⟨2031, 1, 1⟩],
    [⟨1, .fixedAmount, 150, 2, []⟩, ⟨2, .variableAmount, 500, 1, []⟩]⟩

/-- An open shift with a valid tariff set, k valid, the seal closed, the terminal UP and the view in use. -/
def opened : State :=
  ((((State.reset.setTfs { State.reset.tfs with active := setOne, staged := setOne, valid := true, version := 1 }).setMiu
      { State.reset.miu with k := 1600, kValid := true, sealOpen := false, sealTaken := true }).setSau
      { State.reset.sau with
        shift := .opened, number := 1, live := { ShiftRecord.zero with number := 1, ceiling := 9000 }
        slot0 := .reserved }).setVbu { State.reset.vbu with lagCount := 5 }).setTlc { State.reset.tlc with up := true }

/-- A hire of fare 1,000 in a state, number 7. -/
def hireIn (st : HireState) : Hire where
  state := st
  number := 7
  party := 1
  source := .schedule
  tariff := 1
  pending := none
  startTime := .epoch
  startOdometer := 0
  fare := 1000
  charged := 34
  forgone := 0
  forgoneAmount := 0
  distSince := 95
  waitSince := 0
  hiredDistance := 3400
  waitSeconds := 0
  extras := []
  extrasTotal := 0
  bill := match st with
    | .running | .suspended => none
    | _ => some ⟨0, 1000, 1000⟩
  confirmed := none
  tenders := []

/-- The open shift with one hire in slot 0. -/
def cab (st : HireState) : State := opened.setHire .s0 (some (hireIn st))

/-- A closed shift with everything SHIFT_OPEN asks for. -/
def closed : State := opened.setSau { opened.sau with shift := .closed, slot0 := .free }

/-- A hire with two tenders recorded. -/
def twiceTendered : Hire :=
  { hireIn .due with bill := some ⟨0, 1000, 400⟩, tenders := [⟨.cash, 300, 0, []⟩, ⟨.cash, 300, 0, []⟩] }

/-- A HANDED entry for the hire of slot 0. -/
def entry (st : AuthState) : AuthEntry := ⟨17, .s0, 7, 1000, 200, List.replicate 16 0x54, false, st, 100000⟩

/-- A session for the hire of slot 0. -/
def session (st : SessionState) (current : Option Nat) : Session := ⟨st, .s0, 7, 1000, 500, current⟩

/-- A PAYING hire with its entry and session. -/
def paying (st : AuthState) (v : Option Session) : State :=
  ((cab .paying).setStu { State.reset.stu with queue := [entry st], floor := 5000, ceiling := 9000 }).setTlc
    { State.reset.tlc with up := true, session := v, exchange := some ⟨terminalFrame none, false⟩ }

/-- The sign in a controller state with an ALERT module and one entry of the update list. -/
def signIn (c : Ctrl) (e : UpdateEntry) : State :=
  (opened.setSgu { opened.sgu with roles := ⟨some 1, none, none, some 9⟩, list := [e] }).setRbc
    { opened.rbc with controller := c, busBusy := false, idleOnly := false, modules := ⟨some .ok, none, none, some .faulty⟩ }

/-- An entry of AVAILABILITY. -/
def update : UpdateEntry := ⟨.availability, .avail .free, 0, false, none, false⟩

/-- The sign with a transfer of its own in flight. -/
def flying (c : Ctrl) (e : UpdateEntry) (t : Transfer) : State :=
  (signIn c e).setRbc { (signIn c e).rbc with flight := some t, busBusy := true }

/-- The lamp test in a phase, with a transfer in flight or none. -/
def lamps (p : LampPhase) (t : Option Transfer) : State :=
  (signIn .lampTest update).setRbc
    { (signIn .lampTest update).rbc with phase := some p, flight := t, busBusy := t.isSome }

/-- The intercom with some of its state replaced. -/
def intercom (f : Piu → Piu) : State := State.reset.setPiu (f State.reset.piu)

/-- The check byte that makes a rear frame valid (R156). -/
def goodCheck (control : Byte) (block : Block) : Byte := checkByte (control :: blockBytes block)

/-! ## The step -/

theorem test_StepTakesTheFrontCommand :
    (State.reset.setPending [.wheelPulse, .status]).pending = .wheelPulse :: [.status] := by decide +kernel

theorem test_EveryStepAnswers :
    State.reset.pending = [] ∧ powered State.reset = true ∧
      (State.reset.setSmr { State.reset.smr with supply := .down }).pending = [] ∧
      powered (State.reset.setSmr { State.reset.smr with supply := .down }) = false := by decide +kernel

theorem test_RequestsAreAnswered :
    (ownerOf .getTime).isSome = true ∧ listening State.reset = true ∧
      listening (State.reset.setSmr { State.reset.smr with restart := some .epoch }) = false ∧
      (serveHireStop 0 State.reset).status = .notAllowed := by decide +kernel

/-! ## Metering and clock -/

/-- The first pulse of k 1,600 leaves remainder 1,000; the second makes a metre and leaves 400 (R1). -/
theorem test_PulseCountsMetres :
    powered opened = true ∧ opened.miu.kValid = true ∧ powered State.reset = true ∧ State.reset.miu.kValid = false ∧
      (takePulse opened.miu).remainder = 1000 ∧ (takePulse (takePulse opened.miu)).odometer = 1 ∧
      (takePulse (takePulse opened.miu)).remainder = 400 := by decide +kernel

/-- A deferred entry of four days ago, a second before midnight. -/
def ageing : State :=
  (opened.setStu { opened.stu with deferred := [⟨1, 1, 7, 1000, 200, List.replicate 16 0x54, .epoch, false⟩] }).setCku
    ⟨⟨⟨2000, 1, 4⟩, 23, 59, 59⟩, true⟩

theorem test_WholeSecondClosesTheSecond :
    powered ageing = true ∧ ageing.cku.now.next.second = 0 ∧
      CalTime.epoch.seconds + 259200 < ageing.cku.now.next.seconds ∧ ageing.clc.notices.shift.raised = false ∧
      powered opened = true ∧ powered (State.reset.setSmr { State.reset.smr with supply := .down }) = false ∧
      secondMark 70 = .normal ∧ secondMark 71 = .implausible := by decide +kernel

/-- A calibration run of 3,201 pulses. -/
def calibrating : State := State.reset.setMiu { State.reset.miu with calActive := true, rawPulses := 3201 }

/-- The seal closed with the shift closed, as after the first sample. -/
def sealedPart : State := State.reset.setMiu { State.reset.miu with sealOpen := false, sealTaken := true }

theorem test_CalibrationAndKFactor :
    listening State.reset = true ∧ State.reset.miu.calActive = false ∧ State.reset.miu.sealOpen = true ∧
      State.reset.sau.shift = .closed ∧ listening calibrating = true ∧ calibrating.miu.calActive = true ∧
      500 ≤ (2000 * calibrating.miu.rawPulses + 400) / (2 * 400) ∧
      (2000 * calibrating.miu.rawPulses + 400) / (2 * 400) ≤ 50000 ∧
      listening sealedPart = true ∧ sealedPart.miu.calActive = false ∧ sealedPart.miu.sealOpen = false ∧
      (opened.setMiu { opened.miu with sealOpen := true }).sau.shift ≠ .closed ∧
      listening (opened.setMiu { opened.miu with sealOpen := true }) = true := by decide +kernel

theorem test_SealOpeningsAndClosings :
    powered (cab .running) = true ∧ (cab .running).miu.sealTaken = true ∧ (cab .running).miu.sealOpen = false ∧
      (cab .running).sau.shift ≠ .closed ∧ ((cab .running).hire .s0).isSome = true ∧
      (cab .running).hireState .s1 ≠ some .running ∧ State.reset.miu.sealTaken = false ∧
      State.reset.sau.shift = .closed ∧ calibrating.miu.sealOpen = true ∧ calibrating.miu.calActive = true ∧
      State.reset.miu.calActive = false ∧
      (calibrating.setMiu { calibrating.miu with sealTaken := true }).miu.sealTaken = true ∧
      powered calibrating = true ∧ calibrating.miu.sealTaken = false := by decide +kernel

theorem test_TimeRequests :
    listening State.reset = true ∧ State.reset.sau.shift = .closed ∧ opened.sau.shift ≠ .closed ∧
      CalTime.inRange ⟨⟨2024, 2, 29⟩, 23, 59, 59⟩ = true ∧ CalTime.inRange ⟨⟨2023, 2, 29⟩, 0, 0, 0⟩ = false := by
  decide +kernel

/-! ## Tariffs -/

theorem test_ScheduledTariffIsTheLatestBand :
    setOne.bands.Pairwise (fun a b => a.start ≤ b.start) ∧ scheduledAt setOne ⟨⟨2031, 1, 2⟩, 360, .thu⟩ = 2 ∧
      scheduledAt setOne ⟨⟨2031, 1, 2⟩, 359, .thu⟩ = 1 ∧ scheduledAt setOne ⟨⟨2031, 1, 1⟩, 720, .hol⟩ = 1 := by
  decide +kernel

/-- A minute event that changes nothing, and one that changes the scheduled tariff. -/
def minute (m : Nat) : State := opened.setTransit { opened.transit with tfs := [⟨⟨2031, 1, 2⟩, m, .thu⟩] }

theorem test_MinuteEventEvaluatesTheSchedule :
    powered (minute 359) = true ∧ (minute 359).transit.tfs = [⟨⟨2031, 1, 2⟩, 359, .thu⟩] ∧
      scheduledAt (activeSet (minute 359)) ⟨⟨2031, 1, 2⟩, 359, .thu⟩ = (minute 359).tfs.scheduled ∧
      scheduledAt (activeSet (minute 360)) ⟨⟨2031, 1, 2⟩, 360, .thu⟩ ≠ (minute 360).tfs.scheduled := by decide +kernel

/-- The shared step amount is rounded down and at least 1 (R17). -/
theorem test_StagedTariffIsWritten :
    listening State.reset = true ∧ Tariff.inRange ⟨8, 99999, 1, 5000, 600, 40, 50, 99999, [], max 1 (1 * 50 / 100)⟩ = true ∧
      sharedStepOf 1 50 = 1 ∧ sharedStepOf 25 75 = 18 := by decide +kernel

theorem test_StagedTariffIsRemoved :
    listening opened = true ∧ opened.tfs.staged.tariff? 2 ≠ none ∧ opened.tfs.staged.tariff? 8 = none := by decide +kernel

theorem test_BandsAreStaged :
    listening opened = true ∧ (opened.tfs.staged.bands.any fun b => b.start == 360 && b.days == 0x7F) = true ∧
      (opened.tfs.staged.bands.any fun b => b.start == 360 && b.days == 0x01) = false ∧
      (opened.tfs.staged.bands.any fun b => b.start == 360 && b.days &&& 0x01 != 0) = true ∧
      (opened.tfs.staged.bands.all fun b => b.start != 360 || b.days &&& 0x80 == 0) = true ∧
      opened.tfs.staged.bands.length < 16 ∧
      opened.tfs.staged.bands.Pairwise
        (fun a b => a.start < b.start ∨ a.start = b.start ∧ firstDay a.days < firstDay b.days) ∧
      (serveStageBandAdd ⟨0x7F, 0, 1⟩ opened).state.tfs.staged.bands = [⟨0x7F, 0, 1⟩, ⟨0x7F, 360, 2⟩] ∧
      16 ≤ (opened.setStaged { setOne with bands := (List.range 16).map fun n => ⟨0x7F, n, 1⟩ }).tfs.staged.bands.length :=
  by decide +kernel

theorem test_HolidaysAreStaged :
    listening opened = true ∧ Date.inRange ⟨2100, 1, 1⟩ = false ∧ Date.inRange ⟨2031, 1, 1⟩ = true ∧
      (⟨2031, 1, 1⟩ : Date) ∈ opened.tfs.staged.holidays ∧ (⟨2099, 12, 31⟩ : Date) ∉ opened.tfs.staged.holidays ∧
      opened.tfs.staged.holidays.length < 24 ∧
      24 ≤ (opened.setStaged
        { setOne with holidays := (List.range 24).map fun n => ⟨2000, 1, n + 1⟩ }).tfs.staged.holidays.length := by
  decide +kernel

theorem test_ExtrasAndClearingAreStaged :
    listening opened = true ∧ extraKindOf 0 = some .fixedAmount ∧ labelOk [] = true ∧
      opened.tfs.staged.extra? 1 ≠ none ∧ opened.tfs.valid = true ∧ State.reset.tfs.valid = false ∧
      listening State.reset = true := by decide +kernel

/-- The seal open with the shift closed, ready for a commit. -/
def committing : State := closed.setMiu { closed.miu with sealOpen := true }

theorem test_CommitCopiesTheStagedSet :
    listening opened = true ∧ opened.miu.sealOpen = false ∧ opened.sau.shift ≠ .closed ∧ listening committing = true ∧
      committing.miu.sealOpen = true ∧ committing.sau.shift = .closed ∧ occupied committing = false ∧
      committing.tfs.staged.tariff? 1 ≠ none ∧
      (committing.tfs.staged.bands.all fun b => (committing.tfs.staged.tariff? b.tariff).isSome) = true ∧
      State.reset.tfs.staged.tariff? 1 = none ∧ State.reset.miu.sealOpen = true ∧
      occupied (committing.setHire .s3 (some (hireIn .frozen))) = true ∧
      ({ setOne with bands := [⟨0x7F, 0, 1⟩, ⟨0x7F, 60, 8⟩] : TariffSet }).tariff? 8 = none ∧
      ({ setOne with bands := [⟨0x7F, 0, 1⟩, ⟨0x7F, 60, 8⟩] : TariffSet }).tariff? 1 ≠ none := by decide +kernel

theorem test_SetsAreRead :
    listening opened = true ∧ selectedSet opened 0 = some setOne ∧ setOne.tariff? 2 ≠ none ∧ setOne.tariff? 8 = none ∧
      setOne.bands[0]? = some ⟨0x7F, 360, 2⟩ ∧ setOne.holidays[0]? = some ⟨2031, 1, 1⟩ ∧ setOne.extra? 2 ≠ none ∧
      setOne.bands.length ≤ 15 ∧ setOne.holidays.length ≤ 23 ∧ setOne.extra? 8 = none := by
  decide +kernel

/-! ## Hires -/

theorem test_HireStartMakesARunningHire :
    listening opened = true ∧ slotOf 3 = some .s3 ∧ sourceOf 1 = some .fixed ∧ startRefusal .s3 4 .fixed 2 opened = none ∧
      startRefusal .s0 1 .schedule 0 opened = none ∧ closed.sau.shift ≠ .opened ∧
      (opened.setMiu { opened.miu with sealOpen := true }).miu.sealOpen = true ∧
      (opened.setMiu { opened.miu with kValid := false }).miu.kValid = false ∧ (cab .running).hire .s0 ≠ none ∧
      (cab .running).fen.sharing = false ∧ occupied (cab .running) = true ∧ occupied opened = false ∧
      opened.hire .s0 = none ∧ freeSeats opened < 5 ∧ 4 ≤ freeSeats opened ∧ (activeSet opened).tariff? 8 = none ∧
      slotOf 4 = none ∧ sourceOf 2 = none ∧ 9999 ≤ ({ opened.fen with counter := 9999 }).counter := by decide +kernel

theorem test_HiresStopResumeAndSwitch :
    listening (cab .running) = true ∧ (cab .running).hire .s0 = some (hireIn .running) ∧
      (activeSet (cab .running)).tariff? 1 = some tariffOne ∧ (cab .suspended).hire .s0 = some (hireIn .suspended) ∧
      (cab .suspended).sau.shift = .opened ∧ (cab .suspended).miu.sealOpen = false ∧
      ((cab .suspended).setMiu { opened.miu with sealOpen := true }).miu.sealOpen = true ∧
      (activeSet (cab .running)).tariff? 2 ≠ none ∧ (activeSet (cab .running)).tariff? 8 = none ∧
      (cab .frozen).hire .s0 = some (hireIn .frozen) ∧ slotOf 3 = some .s3 ∧ (cab .running).hire .s3 = none ∧
      slotOf 4 = none ∧ sourceOf 2 = none := by decide +kernel

/-- A DUE hire with one extra of 150. -/
def withExtra : Hire := { hireIn .due with extras := [⟨1, 150⟩], extrasTotal := 150, bill := some ⟨0, 1150, 1150⟩ }

theorem test_ExtrasChangeTheBill :
    (cab .due).hire .s0 = some (hireIn .due) ∧ (hireIn .due).bill ≠ none ∧
      (activeSet (cab .due)).extra? 1 = some ⟨1, .fixedAmount, 150, 2, []⟩ ∧
      (activeSet (cab .due)).extra? 2 = some ⟨2, .variableAmount, 500, 1, []⟩ ∧ (hireIn .due).extras.length < 8 ∧
      withExtra.extras[0]? = some ⟨1, 150⟩ ∧ (withExtra.tenders.map (·.amount)).sum < 1000 + 0 + (150 - 150) ∧
      ({ withExtra with fare := 0 }).fare + 0 + (150 - 150) ≤ (withExtra.tenders.map (·.amount)).sum := by decide +kernel

theorem test_HiresAreAbandonedAndRead :
    listening (cab .frozen) = true ∧ (cab .frozen).hire .s0 = some (hireIn .frozen) ∧ (cab .due).hire .s0 ≠ none ∧
      (cab .due).hire .s1 = none := by decide +kernel

theorem test_CloseKeepsThePaymentBalance :
    (cab .due).sau.shift = .opened ∧ (cab .due).hire .s0 = some (hireIn .due) ∧
      ((hireIn .due).tenders.map (·.amount)).sum + 1000 = 1000 ∧ (cab .due).sau.live.dueSum = 0 ∧
      (cab .due).sau.live.writtenOff = 0 := by decide +kernel

/-- A state with one event on its way to the FEN. -/
def toFenOf (s : State) (e : FenEvent) : State := s.setTransit { s.transit with fen := [e] }

theorem test_BandChangeSetsPendingTariffs :
    powered (toFenOf (cab .running) (.bandChange 2)) = true ∧
      (toFenOf (cab .running) (.bandChange 2)).transit.fen = [.bandChange 2] ∧ (hireIn .running).source = .schedule ∧
      (hireIn .frozen).state = .frozen ∧ (cab .running).hire .s1 = none := by decide +kernel

/-- The second report of 6 m that brings a hire with 95 m to a step (R43). -/
def stepping : State := toFenOf (cab .running) (.report ⟨.epoch, 6, .normal⟩)

/-- Two RUNNING hires before a view that allows one more step: the lower slot draws on the count first (R41, R45). -/
def sharing : State :=
  ((cab .running).setHire .s3 (some (hireIn .running))).setVbu { opened.vbu with lagCount := 1 }

theorem test_ReportIsAppliedToRunningHires :
    powered stepping = true ∧ (cab .running).hireState .s0 = some .running ∧ (cab .running).hireState .s1 ≠ some .running ∧
      (toFenOf (cab .running) (.report ⟨.epoch, 71, .implausible⟩)).transit.fen =
        [.report ⟨.epoch, 71, .implausible⟩] ∧
      sharing.hireState .s3 = some .running ∧ runningCount sharing.fen.slots = 2 ∧
      (applyReport ⟨.epoch, 6, .normal⟩ sharing).vbu.lagCount = 0 ∧
      ((applyReport ⟨.epoch, 6, .normal⟩ sharing).hire .s0).map (fun h => (h.fare, h.forgone)) = some (1015, 0) ∧
      ((applyReport ⟨.epoch, 6, .normal⟩ sharing).hire .s3).map (fun h => (h.fare, h.forgone)) = some (1000, 1) ∧
      (accrue setOne false 6 5 (hireIn .running)).hire.fare = 1020 ∧
      (applyReport ⟨.epoch, 6, .normal⟩ ((cab .running).setVbu { opened.vbu with lagCount := 1 })).vbu.lagCount = 0 := by
  decide +kernel

/-- A RUNNING hire one wait second before a step, with a pending tariff. -/
def waiting : Hire := { hireIn .running with waitSince := 29, pending := some 2 }

theorem test_StepsDrawOnTheLagCount :
    (hireIn .running).fare ≤ 99000000 ∧ (accrue setOne false 6 0 (hireIn .running)).hire.fare = 1000 ∧
      (accrue setOne false 6 0 (hireIn .running)).hire.forgone = 1 ∧
      (accrue setOne true 6 5 (hireIn .running)).hire.fare = 1015 ∧
      (setOne.tariffs.all fun r => 1 ≤ r.stepDistance && 1 ≤ r.stepWait) = true ∧
      setOne.tariff? (accrue setOne false 6 5 (hireIn .running)).hire.tariff = some tariffOne ∧
      tariffOne.crossover ≤ 6 ∧ ((hireIn .running).distSince + 6) / tariffOne.stepDistance = 1 ∧
      (hireIn .running).pending = none ∧ (0 + 6) / tariffOne.stepDistance = 0 ∧ 4 < tariffOne.crossover ∧
      waiting.waitSince + 1 = tariffOne.stepWait ∧ (hireIn .running).waitSince + 1 ≠ tariffOne.stepWait ∧
      waiting.pending = some 2 ∧ (accrue setOne false 4 1 waiting).hire.tariff = 2 := by decide +kernel

/-! ## The fare view -/

/-- A composition caused and not yet made. -/
def composing : State := opened.setTransit { opened.transit with vbu := [⟨none, none, none, none⟩] }

/-- The console holds snapshot 1. -/
def viewing : State := opened.setVbu opened.vbu.take

theorem test_CompositionExchangesWriteAndReady :
    powered composing = true ∧ composing.transit.vbu = [⟨none, none, none, none⟩] ∧ composing.vbu.write ≠ composing.vbu.ready ∧
      composing.vbu.ready ≠ composing.vbu.console ∧ composing.vbu.write ≠ composing.vbu.console := by decide +kernel

theorem test_ViewIsTakenAndShown :
    listening opened = true ∧ (opened.vbu.get opened.vbu.ready).isSome = true ∧ listening viewing = true ∧
      viewing.vbu.get viewing.vbu.ready = none ∧ (viewing.vbu.get viewing.vbu.console).map (·.seq) = some 1 ∧
      opened.vbu.get opened.vbu.console = none ∧ viewing.vbu.ready ≠ viewing.vbu.console := by decide +kernel

/-- The view of a cab, as a confirmation carries it. -/
def confirming (s : State) : State := toFenOf s (.confirm (viewEntries s.fen.slots))

theorem test_ConfirmationMakesFrozenHiresDue :
    powered (confirming (cab .frozen)) = true ∧ ((viewEntries (cab .frozen).fen.slots).get .s0).isSome = true ∧
      (viewEntries (cab .frozen).fen.slots).get .s1 = none ∧
      ((viewEntries (cab .frozen).fen.slots).get .s0).bind (·.dueTotal) = some 1000 ∧
      (applyConfirmation (viewEntries (cab .frozen).fen.slots) (cab .frozen)).hireState .s0 = some .due ∧
      (applyConfirmation (viewEntries (cab .running).fen.slots) (cab .running)).hireState .s0 = some .running := by
  decide +kernel

/-! ## Settlement -/

theorem test_CardPaymentsBeginAndAreCancelled :
    listening (cab .due) = true ∧ (cab .due).hire .s0 = some (hireIn .due) ∧ (cab .due).tlc.session = none ∧
      (cab .due).tlc.up = true ∧ ((cab .due).setTlc { State.reset.tlc with up := false }).tlc.up = false ∧
      ((cab .due).setTlc { opened.tlc with session := some (session .result none) }).tlc.session ≠ none ∧
      (paying .handed (some (session .result none))).hire .s0 = some (hireIn .paying) ∧
      (paying .handed (some (session (.pin .awaiting) (some 17)))).tlc.session =
        some (session (.pin .awaiting) (some 17)) ∧
      (session (.inPhase .showing) none).inPin = false ∧ (paying .handed none).tlc.session = none := by decide +kernel

theorem test_AuthEntriesAreHandedReadAndExpire :
    listening (paying .queued none) = true ∧ (paying .queued none).stu.queue = [] ++ entry .queued :: [] ∧
      (paying .handed none).stu.queue = [entry .handed] ∧ opened.stu.queue.length ≤ 7 ∧
      authEntry (paying .handed none) 17 = some (entry .handed) ∧
      authEntry (paying .withdrawn none) 17 = some (entry .withdrawn) ∧
      ((paying .withdrawn none).stu.queue.map (·.id)).Nodup ∧ powered (paying .handed none) = true ∧
      (paying .handed none).hire .s0 = some (hireIn .paying) := by decide +kernel

/-- One deferred entry. -/
def deferred : State :=
  opened.setStu { opened.stu with deferred := [⟨1, 1, 7, 1000, 200, List.replicate 16 0x54, .epoch, false⟩] }

theorem test_VerdictsDecideEntries :
    listening (paying .handed none) = true ∧ approvalOk (some (List.replicate 6 0x35)) = true ∧
      authEntry (paying .handed none) 16 = none ∧ authEntry (paying .superseded none) 17 = some (entry .superseded) ∧
      authEntry (paying .queued none) 17 = some (entry .queued) ∧ (hireIn .paying).remaining = (entry .handed).amount ∧
      (hireIn .paying).bill ≠ none ∧ (paying .handed none).sau.shift ≠ .closed ∧
      (entry .handed).amount + (entry .handed).tip ≤ (paying .handed none).stu.floor ∧
      (paying .handed none).sau.live.exposure + 1000 + 200 ≤ (paying .handed none).stu.ceiling ∧
      (paying .handed none).stu.deferred.length < 32 ∧ ({ State.reset.stu with floor := 1199 }).floor < 1000 + 200 ∧
      approvalOk (some [0x35]) = false ∧ (paying .handed none).stu.lastDeferredId ≤ 255 ∧
      (paying .handed none).tlc.session = none ∧
      (paying .handed (some (session (.inPhase .awaiting) (some 17)))).tlc.session =
        some (session (.inPhase .awaiting) (some 17)) ∧
      nextId (deferred.stu.deferred.map (·.id)) 255 = 2 := by
  decide +kernel

theorem test_CashAndAccountTendersAreTaken :
    listening (cab .due) = true ∧ (hireIn .due).remaining = 1000 ∧ (hireIn .due).tenders.length < 2 ∧
      (opened.setHire .s0 (some twiceTendered)).hire .s0 = some twiceTendered ∧ twiceTendered.remaining = 400 ∧
      twiceTendered.state = .due ∧ 2 ≤ twiceTendered.tenders.length ∧ accountOk [0x31] = true ∧
      accountOk (List.replicate 8 0x39) = true := by decide +kernel

theorem test_DeferredEntriesAreReportedAndRead :
    listening deferred = true ∧ deferred.sau.shift ≠ .closed ∧ closed.sau.shift = .closed ∧ listening closed = true ∧
      (deferred.stu.deferred.find? fun x => x.id == 1).isSome = true ∧ (deferred.stu.deferred.all fun d => d.id != 2) = true ∧
      deferred.stu.deferred[0]?.isSome = true ∧ deferred.stu.deferred.length ≤ 31 := by decide +kernel

/-- An exchange in progress with some unanswered before it. -/
def polled (n : Nat) (v : Option Session) (m : Option TermMsg) : State :=
  (cab .paying).setTlc
    { State.reset.tlc with up := true, unanswered := n, session := v, slot := m, exchange := some ⟨[], m.isSome⟩ }

theorem test_TerminalExchangesAndLoss :
    powered (polled 4 none none) = true ∧ opened.tlc.exchange = none ∧ (polled 3 none none).tlc.exchange ≠ none ∧
      ¬ ((polled 3 none none).tlc.unanswered = 4 ∧ (polled 3 none none).tlc.up = true) ∧
      (polled 4 (some (session (.inPhase .showing) none)) none).tlc.session =
        some (session (.inPhase .showing) none) ∧
      (polled 4 (some (session (.inPhase .awaiting) (some 17))) none).tlc.session ≠ none ∧
      (polled 4 (some (session .result none)) (some (.result .approved none))).tlc.slot =
        some (.result .approved none) ∧
      (polled 4 (some (session .result none)) (some .cancel)).tlc.slot = some .cancel := by decide +kernel

/-- A good reply of a state, without and with a TENDER of an echo, and with the CANCELLED flag (R206). -/
def stateFrame (st flags : Byte) (rest : List Byte) : List Byte := linkFrame 0xD2 0x81 (st :: flags :: rest)

/-- A TENDER record: token, echo, tip, pin-used (R206). -/
def tenderBytes (echo : Nat) : List Byte := List.replicate 16 0x54 ++ be 4 echo ++ be 4 200 ++ [0]

theorem test_GoodRepliesAreTaken :
    powered (polled 0 none none) = true ∧ (polled 0 none none).tlc.exchange = some ⟨[], false⟩ ∧
      goodReplyBody [] = none ∧ goodReplyBody (stateFrame 1 0 []) = some ⟨.showing, false, none⟩ ∧
      goodReplyBody (stateFrame 2 0 []) = some ⟨.pinEntry, false, none⟩ ∧
      goodReplyBody (stateFrame 4 0 []) = none ∧ TermMsg.cancel.isFinal = true ∧
      (polled 0 (some (session (.pin .showing) none)) none).tlc.session = some (session (.pin .showing) none) := by
  decide +kernel

theorem test_TendersAndCancelsReachTheQueue :
    goodReplyBody (stateFrame 3 1 (tenderBytes 1000)) =
        some ⟨.processing, false, some ⟨List.replicate 16 0x54, 1000, 200, false⟩⟩ ∧
      goodReplyBody (stateFrame 3 1 (tenderBytes 999)) =
        some ⟨.processing, false, some ⟨List.replicate 16 0x54, 999, 200, false⟩⟩ ∧
      goodReplyBody (stateFrame 0 2 []) = some ⟨.idle, true, none⟩ ∧
      powered (polled 0 (some (session (.inPhase .showing) none)) none) = true ∧
      (polled 0 (some (session (.inPhase .showing) none)) none).stu.queue.length < 8 ∧
      (polled 0 (some (session (.inPhase .awaiting) (some 17))) none).tlc.slot = none ∧
      (polled 0 (some (session (.inPhase .awaiting) (some 17))) none).hire .s0 = some (hireIn .paying) := by decide +kernel

/-- A session in RESULT, its final message in the slot, in an exchange that carries the message or not. -/
def resulting (carries : Bool) : State :=
  (polled 0 (some (session .result none)) (some .cancel)).setTlc
    { (polled 0 (some (session .result none)) (some .cancel)).tlc with exchange := some ⟨[], carries⟩ }

theorem test_TendersInResult :
    powered (resulting false) = true ∧ (resulting false).tlc.exchange = some ⟨[], false⟩ ∧
      (resulting true).tlc.exchange = some ⟨[], true⟩ ∧ (resulting false).tlc.session = some (session .result none) ∧
      (resulting false).tlc.slot = some .cancel ∧ TermMsg.cancel.isFinal = true ∧
      (takeReply ⟨.idle, false, some ⟨List.replicate 16 0x54, 1000, 200, false⟩⟩ (resulting false)).tlc.slot =
        some .cancel ∧
      (takeReply ⟨.idle, true, none⟩ (resulting true)).tlc.session = none := by decide +kernel

/-- A session that awaits its verdict with its entry queued, or with the queue full. -/
def awaiting (entries : Nat) : State :=
  (polled 0 (some (session (.pin .awaiting) (some 17))) none).setStu
    { State.reset.stu with queue := List.replicate entries (entry .queued) }

theorem test_RetapsAndFullQueues :
    (awaiting 1).tlc.exchange = some ⟨[], false⟩ ∧ (awaiting 1).tlc.slot = none ∧
      (awaiting 1).tlc.session = some (session (.pin .awaiting) (some 17)) ∧
      authEntry (awaiting 1) 17 = some (entry .queued) ∧ (entry .queued).token = List.replicate 16 0x54 ∧
      (⟨List.replicate 16 0x55, 1000, 200, false⟩ : TenderRecord).token ≠ (entry .queued).token ∧
      8 ≤ (awaiting 8).stu.queue.length ∧ (awaiting 0).clc.notices.authWaiting.holds = authWaiting (awaiting 0) ∧
      goodReplyBody (stateFrame 2 1 (tenderBytes 1000)) =
        some ⟨.pinEntry, false, some ⟨List.replicate 16 0x54, 1000, 200, false⟩⟩ ∧
      ((takeTender ⟨List.replicate 16 0x54, 1000, 200, false⟩ (awaiting 1)).stu = (awaiting 1).stu) ∧
      (takeTender ⟨List.replicate 16 0x55, 1000, 200, false⟩ (awaiting 1)).stu.queue.map (·.state) =
        [.superseded, .queued] ∧
      (polled 0 none none).tlc.session = none ∧
      (polled 0 (some (session .result none)) none).tlc.session = some (session .result none) := by decide +kernel

/-! ## Shift accounting -/

/-- A second report on its way to the SAU. -/
def posting (s : State) (m : Mark) : State := s.setTransit { s.transit with sau := [⟨.epoch, 12, m⟩] }

theorem test_ReportsKeepTheDistanceClasses :
    powered (posting opened .normal) = true ∧ (posting opened .part).sau.shift ≠ .closed ∧
      (posting closed .normal).sau.shift = .closed ∧ powered (posting closed .normal) = true ∧
      opened.sau.live.shiftDistance + 12 ≤ 281474976710655 ∧ opened.sau.live.shiftDistance = 0 ∧
      runningCount (cab .running).fen.slots = 1 := by decide +kernel

theorem test_ShiftsOpen :
    listening closed = true ∧ closed.sau.shift = .closed ∧ closed.tfs.valid = true ∧ closed.miu.kValid = true ∧
      closed.miu.calActive = false ∧ closed.miu.sealOpen = false ∧ closed.sau.slot0 = .free ∧ flagOf 1 = some true ∧
      committing.miu.sealOpen = true ∧ opened.sau.shift ≠ .closed ∧ State.reset.tfs.valid = false ∧
      ({ closed.sau with slot0 := .reserved, slot1 := .reserved }).slot1 ≠ .free ∧ flagOf 2 = none := by decide +kernel

theorem test_ShiftsBreakResumeAndClose :
    listening opened = true ∧ opened.sau.shift = .opened ∧ occupied opened = false ∧ opened.tlc.session = none ∧
      opened.stu.queue = [] ∧ occupied (cab .running) = true ∧
      (changeShift .onBreak opened).sau.shift = .onBreak ∧ occupied (changeShift .onBreak opened) = false ∧
      listening (changeShift .onBreak opened) = true ∧ closed.sau.shift ≠ .onBreak := by decide +kernel

/-- Two HELD summaries, the second fetched and closed later. -/
def summaries : State :=
  closed.setSau
    { closed.sau with
      slot0 := .held (closingSummary closed) false 0, slot1 := .held (closingSummary closed) true 1 }

theorem test_SummariesAreFetchedAndReleased :
    listening summaries = true ∧ summarySlot summaries 0 = .held (closingSummary closed) false 0 ∧
      summarySlot summaries 1 = .held (closingSummary closed) true 1 ∧ summarySlot closed 0 = .free ∧
      opened.sau.shift ≠ .closed ∧ summaries.sau.shift = .closed ∧ listening opened = true ∧
      (closingSummary closed).toBytes.length = 214 := by decide +kernel

/-! ## Roof sign -/

theorem test_SignRequestsAreServed :
    listening (signIn .held update) = true ∧ State.reset.rbc.controller = .held ∧ addressOf 63 = some (some 63) ∧
      addressOf 0xFF = some none ∧ addressesDistinct [some 1, some 63, none, none] = true ∧
      addressesDistinct [some 1, some 1, none, none] = false ∧ printable 0x7E = true ∧ State.reset.rbc.alrmActive = false ∧
      State.reset.sgu.latch = false ∧ ({ State.reset.sgu with latch := true }).latch = true ∧
      driving (flying .running update (.content .availability (.avail .free))).rbc = true ∧
      driving (signIn .running update).rbc = false ∧ (signIn .lampTest update).rbc.holdPending = false ∧
      State.reset.sgu.list = [] ∧ (signIn .running update).rbc.flight = none ∧ addressOf 0 = none ∧ addressOf 64 = none ∧
      24 < (List.replicate 25 (0x41 : Byte)).length ∧ printable 0x1F = false ∧ printable 0x7F = false := by decide +kernel

theorem test_AlarmAndBusEvents :
    powered (signIn .running update) = true ∧ (signIn .running update).sgu.latch = false ∧
      (opened.setSgu { opened.sgu with latch := true }).sgu.latch = true ∧ driving (signIn .running update).rbc = false ∧
      driving (flying .running update (.content .availability (.avail .free))).rbc = true ∧
      State.reset.rbc.idleOnly = true ∧ driving State.reset.rbc = false ∧ State.reset.rbc.controller ≠ .lampTest ∧
      (lamps .lit none).rbc.phase = some .lit ∧ (lamps .allOn none).rbc.lampRetry = none ∧
      powered (failSupply true State.reset) = false := by decide +kernel

/-- A content transfer in flight. -/
def sendingFree : State := flying .running update (.content .availability (.avail .free))

theorem test_ContentTransfersSucceedAndFail :
    powered sendingFree = true ∧ sendingFree.rbc.controller = .running ∧
      (signIn .running update).sgu.list.find? UpdateEntry.eligible = some update ∧
      (signIn .running { update with holdOff := some 50 }).sgu.list.find? UpdateEntry.eligible = none ∧
      entryOf sendingFree.sgu.list .availability = some update ∧ sendingFree.rbc.arbWait = false ∧
      entryOf (flying .running { update with probe := true } (.content .availability (.avail .off))).sgu.list
        .availability = some { update with probe := true } ∧
      entryOf (flying .running { update with tries := 2 } (.content .availability (.avail .free))).sgu.list
        .availability = some { update with tries := 2 } ∧
      roleOf 3 = some .alert ∧ (signIn .running update).rbc.modules.get .alert = some .faulty ∧
      ((signIn .running update).setRbc { (signIn .running update).rbc with
        probe := ⟨none, none, none, some 1⟩ }).rbc.probe.get .alert ≠ none ∧
      entryOf (signIn .running update).sgu.list .alert = none := by decide +kernel

theorem test_ContentEndsInHoldingAndLampTest :
    powered (flying .holding update (.content .availability (.avail .free))) = true ∧
      (flying .holding update (.content .availability (.avail .free))).rbc.controller = .holding ∧
      (transferSuccess (flying .holding update (.content .availability (.avail .free)))).rbc.controller = .held ∧
      (lamps .allOn (some (.content .availability (.avail .free)))).rbc.phase = some .allOn ∧
      (lamps .allOn (some (.content .availability (.avail .free)))).rbc.lampRetry = none ∧
      (lamps .allOn (some (.content .availability (.avail .free)))).rbc.recovering = false ∧
      entryOf (lamps .allOn (some (.content .availability (.avail .free)))).sgu.list .availability = some update ∧
      (transferFailed (lamps .allOn (some (.content .availability (.avail .free))))).rbc.flight = some .lampAllOn := by
  decide +kernel

theorem test_ArbitrationAndStalls :
    powered sendingFree = true ∧ driving sendingFree.rbc = true ∧ sendingFree.rbc.controller ≠ .holding ∧
      driving (flying .holding update (.content .availability (.avail .free))).rbc = true ∧
      (sendingFree.setRbc { sendingFree.rbc with arbWait := true, busBusy := false }).rbc.arbWait = true ∧
      ((lamps .allOn (some .lampAllOn)).setRbc { (lamps .allOn (some .lampAllOn)).rbc with
        arbWait := true, busBusy := false }).rbc.flight = some .lampAllOn ∧
      (sendingFree.setRbc { sendingFree.rbc with recovering := true }).rbc.recovering = true ∧
      entryOf sendingFree.sgu.list .availability = some update := by decide +kernel

theorem test_LampTestPhases :
    powered (lamps .allOn (some .lampAllOn)) = true ∧ (lamps .allOn (some .lampAllOn)).rbc.controller = .lampTest ∧
      (lamps .allOn (some .lampAllOn)).rbc.arbWait = false ∧ (lamps .allOn (some .lampAllOn)).rbc.lampCut = false ∧
      (lamps .lit none).rbc.busBusy = false ∧ (lamps .lit none).rbc.recovering = false ∧
      (lamps .restore (some .lampNormal)).rbc.flight = some .lampNormal ∧
      (lamps .restore (some .lampNormal)).rbc.holdPending = false ∧
      ((lamps .restore (some .lampNormal)).setRbc
        { (lamps .restore (some .lampNormal)).rbc with holdPending := true }).rbc.holdPending = true ∧
      ((lamps .allOn none).setRbc { (lamps .allOn none).rbc with lampRetry := some 50 }).rbc.lampRetry ≠ none := by
  decide +kernel

/-- The lamp test after some failed tries of a lamp transfer, cut by the alarm or not. -/
def tried (p : LampPhase) (t : Option Transfer) (tries : Nat) (cut : Bool) : State :=
  (lamps p t).setRbc { (lamps p t).rbc with lampTries := tries, lampCut := cut }

theorem test_LampTestCutsAndFailures :
    (lamps .allOn none).sgu.latch = false ∧ (lamps .allOn none).rbc.flight = none ∧
      (lamps .allOn none).rbc.busBusy = false ∧ (lamps .allOn none).rbc.recovering = false ∧
      (riseLatch (lamps .allOn none)).rbc.flight = some .lampNormal ∧
      (riseLatch (lamps .allOn (some .lampAllOn))).rbc.lampCut = true ∧
      (riseLatch (lamps .restore (some .lampNormal))).rbc.lampCut = false ∧
      (tried .allOn (some .lampAllOn) 0 true).rbc.lampCut = true ∧
      (transferFailed (tried .allOn (some .lampAllOn) 0 true)).rbc.phase = some .restore ∧
      2 ≤ (tried .allOn (some .lampAllOn) 2 false).rbc.lampTries ∧
      (transferFailed (tried .allOn (some .lampAllOn) 2 false)).rbc.phase = some .lit ∧
      (transferFailed (tried .restore (some .lampNormal) 2 false)).rbc.controller = .running ∧
      (transferFailed (tried .restore (some .lampNormal) 0 false)).rbc.lampRetry = some 50 := by decide +kernel

/-! ## Intercom -/

/-- Both buffers full, with the rear link UP. -/
def full : State :=
  intercom fun p =>
    { p with
      rearUp := true, r2f := { p.r2f with blocks := List.replicate 8 silence }
      f2r := { p.f2r with blocks := List.replicate 8 silence } }

theorem test_FrontPortEvents :
    powered State.reset = true ∧ State.reset.piu.held = false ∧ State.reset.piu.chime ≠ some 0 ∧
      (intercom fun p => { p with held := true }).piu.held = true ∧
      (intercom fun p => { p with chime := some 0 }).piu.chime = some 0 ∧ State.reset.piu.pinMute = .hold 2000 ∧
      (intercom fun p => { p with pinMute := .off, chime := some 125 }).piu.pinMute = .off ∧
      (intercom fun p => { p with loop := .frontLocal }).piu.loop = .frontLocal ∧
      (intercom fun p => { p with r2f := { p.r2f with flowing := true } }).piu.r2f.flowing = true ∧
      full.piu.rearUp = true ∧ full.piu.f2r.blocks.length = full.piu.f2r.depth ∧ full.piu.f2r.offset < full.piu.f2r.depth ∧
      full.piu.held = false ∧ full.piu.chime = none ∧
      (intercom fun p => { p with rearUp := true }).piu.f2r.blocks.length <
        (intercom fun p => { p with rearUp := true }).piu.f2r.depth := by decide +kernel

theorem test_RearFramesAreAnswered :
    powered State.reset = true ∧ rearCheckOk 0x81 silence (goodCheck 0x81 silence) = true ∧
      rearCheckOk 0x81 silence 0 = false ∧ (intercom fun p => { p with autoLoop := false }).piu.autoLoop = false ∧
      (intercom fun p => { p with autoLoop := false, held := true }).piu.held = true ∧ State.reset.piu.rearUp = false ∧
      (intercom fun p => { p with rearUp := true }).piu.rearUp = true ∧ State.reset.piu.phase = .none ∧
      State.reset.piu.loopRemote = false ∧ silence.length = 32 ∧ State.reset.piu.autoLoop = true ∧
      State.reset.piu.upRun < 24 ∧ State.reset.piu.downRun < 24 ∧ full.piu.r2f.blocks.length = full.piu.r2f.depth ∧
      full.piu.r2f.offset < full.piu.r2f.depth ∧ [0xA6, (0x00 : Byte)].length < 66 ∧
      State.reset.piu.begun = [] ∧ (hearRear [0xA7, 0x81] State.reset).piu.begun = 0xA7 :: [0x81] ∧
      (∀ b ∈ [(0x55 : Byte), 0xC5], b ≠ 0xA7) := by decide +kernel

/-- A frame is found behind noise, and is answered with 67 bytes whose sum is the sync byte; what has begun is kept (R156). -/
theorem test_rearHunt :
    (hearRear (0x55 :: 0xC5 :: rearFrameBytes 0x81 silence) State.reset).piu.lastCall = true ∧
      (hearRear (0x55 :: 0xC5 :: rearFrameBytes 0x81 silence) State.reset).piu.rlo.map (·.length) = [67] ∧
      (hearRear (0x55 :: 0xC5 :: rearFrameBytes 0x81 silence) State.reset).piu.rlo.map (·.foldl (· + ·) 0) = [0xA7] ∧
      (hearRear [0x12, 0xA7, 0x81, 0, 0] State.reset).piu.begun = [0xA7, 0x81, 0, 0] := by decide +kernel

/-- Two frames in one row are both answered, and a frame that has begun ends in a later row (R156). -/
theorem test_rearRows :
    (hearRear (rearFrameBytes 0x81 silence ++ rearFrameBytes 0x02 silence) State.reset).piu.rlo.length = 2 ∧
      (hearRear (rearFrameBytes 0x81 silence ++ rearFrameBytes 0x02 silence) State.reset).piu.lastStatus = 2 ∧
      (hearRear ((rearFrameBytes 0x81 silence).drop 20)
        (hearRear ((rearFrameBytes 0x81 silence).take 20) State.reset)).piu.rearUp = true := by decide +kernel

/-- The rear link UP with a REMOTE loop, and with a link test in synchronism. -/
theorem test_rearLosses :
    (intercom fun p => { p with rearUp := true, loop := .rearRemote, loopRemote := true }).piu.loop ≠ .none ∧
      (loseRear (intercom fun p => { p with rearUp := true, loop := .rearRemote, loopRemote := true })).piu.loop =
        .none ∧
      (intercom fun p => { p with rearUp := true, phase := .running, checker := .sync 1 0 }).piu.phase ≠ .none ∧
      (loseRear (intercom fun p => { p with rearUp := true, phase := .running, checker := .sync 1 0 })).piu.checker =
        .search 0 0 := by decide +kernel

theorem test_RearFramesAtTheirBounds :
    rearCheckOk 0x10 silence (goodCheck 0x10 silence) = true ∧ ((0x10 : Byte) >>> 4) &&& 3 = 1 ∧
      ((0x20 : Byte) >>> 4) &&& 3 = 2 ∧ rearCheckOk 0x20 silence (goodCheck 0x20 silence) = true ∧
      (takeRearFrame 0x10 silence (goodCheck 0x10 silence) (intercom fun p => { p with upRun := 24 })).piu.loop =
        .rearRemote ∧
      (takeRearFrame 0x20 silence (goodCheck 0x20 silence)
        (intercom fun p => { p with loop := .dual, loopRemote := true, downRun := 24 })).piu.loop = .none ∧
      (takeRearFrame 0x00 silence (goodCheck 0x00 silence) (intercom fun p => { p with phase := .announce 24 })).piu.phase =
        .running ∧
      ((blockBits silence).foldl syncBit ⟨0x7FFF, 0⟩).diff ≠ 0 ∧
      (takeRearFrame 0x00 silence (goodCheck 0x00 silence)
        (intercom fun p => { p with phase := .running, checker := .sync 0x7FFF 3 })).piu.checker = .search 0 0 ∧
      (takeRearFrame 0x00 silence (goodCheck 0x00 silence) (intercom fun p => { p with phase := .announce 23 })).piu.phase =
        .announce 24 := by
  decide +kernel

/-- The first block of the test sequence is what RUNNING sends; a checker that hears two of them in a row finds the sequence
and stays with it (R169, R170). -/
theorem test_testSequence :
    (takeChecked (genSamples 32 0x7FFF).1
        (intercom fun p => { p with phase := .running, checker := .search 0 0 })).piu.checker =
        .sync (genSamples 32 0x7FFF).2 0 ∧
      ((blockBits (genSamples 32 0x7FFF).1).foldl syncBit ⟨0x7FFF, 0⟩).diff = 0 ∧
      ((blockBits ((genSamples 32 0x7FFF).1.modifyHead (· ^^^ 0x8000))).foldl syncBit ⟨0x7FFF, 0⟩).diff = 1 := by
  decide +kernel

theorem test_IntercomRequestsAreServed :
    listening State.reset = true ∧ floorOf 2 = some .driverPtt ∧ loopOf 3 = some .dual ∧ occupied State.reset = false ∧
      State.reset.piu.held = false ∧ State.reset.piu.phase = .none ∧ occupied (cab .running) = true ∧
      (intercom fun p => { p with phase := .announce 0 }).piu.phase ≠ .none ∧ State.reset.piu.rearUp = false ∧
      (intercom fun p => { p with rearUp := true }).piu.rearUp = true ∧ State.reset.piu.loop = .none ∧
      (intercom fun p => { p with held := true }).piu.held = true ∧ flagOf 0 = some false ∧ flagOf 1 = some true ∧
      (intercom fun p => { p with phase := .running, insertion := true }).piu.insertion = true := by decide +kernel

/-! ## Console link, notices and supply -/

theorem test_NoticesAreRaisedAndHandedOut :
    listening State.reset = true ∧ State.reset.clc.notices.supply.raised = true ∧ attnLow State.reset = true ∧
      attnLow (handOut .displayStale (handOut .supply State.reset)) = false ∧
      attnLow (setPins ⟨false, true⟩ (failSupply true State.reset)) = false ∧
      attnLow (setPins ⟨true, false⟩ (failSupply true State.reset)) = false ∧
      attnLow (setPins ⟨true, true⟩ (failSupply true State.reset)) = true ∧
      (handOut .displayStale (handOut .supply State.reset)).clc.notices = { NoticeSet.clear with
        displayStale := ⟨true, false, 0, true⟩ } ∧
      (0x3FFF : BitVec 16).getLsbD 14 = false ∧ (0x3FFF : BitVec 16).getLsbD 15 = false ∧
      (0x4000 : BitVec 16).getLsbD 14 = true ∧ (0x8000 : BitVec 16).getLsbD 15 = true := by decide +kernel

/-- A RESTART answered, its reply sent. -/
def restarting : State := opened.setSmr { opened.smr with supply := .starting, restart := some .epoch }

theorem test_IdentificationAndRestart :
    listening opened = true ∧ occupied (cab .running) = true ∧ occupied opened = false ∧ opened.tlc.session = none ∧
      restarting.smr.restart = some .epoch ∧ restarting.smr.supply = .starting := by decide +kernel

/-- An answer in progress. -/
def answering (s : State) : State := s.setAnswer (some (.reply 0x84 .ok []))

/-- A RESTART answered OK, its reply still being sent. -/
def restartTaken : State := answering (opened.setSmr { opened.smr with restart := some .epoch })

/-- A gap that cuts a frame while a RESTART waits for its start is counted and raised (R181). -/
theorem test_gapDuringRestart :
    powered restartTaken = true ∧ listening restartTaken = false ∧
      (([0xC5, 0, 1].foldl hearByte restartTaken).clc.rx = .body) ∧
      (cutFrame ([0xC5, 0, 1].foldl hearByte restartTaken)).clc.gapCount = 1 ∧
      (cutFrame ([0xC5, 0, 1].foldl hearByte restartTaken)).clc.notices.link.raised = true := by decide +kernel

/-- Every body, the longest one too, has a check word that fails. -/
theorem test_everyBodyHasABadCheck (body : List Byte) :
    ∃ check : List Byte, check.length = 2 ∧ check ≠ be 2 (crc16 (be 2 (body.length + 1) ++ 4 :: body)).toNat := by
  by_cases h : [0, 0] = be 2 (crc16 (be 2 (body.length + 1) ++ 4 :: body)).toNat
  · exact ⟨[0, 1], rfl, fun h' => absurd (h.trans h'.symm) (by decide)⟩
  · exact ⟨[0, 0], rfl, h⟩

theorem test_ReceiverRejectsBadFrames :
    listening State.reset = true ∧ State.reset.clc.rx = .hunt ∧ beValue [0, 0] = 0 ∧ 260 < beValue [1, 5] ∧
      answerIdle State.reset.clc = true ∧ answerIdle (answering State.reset).clc = false ∧
      (State.reset.setClc { State.reset.clc with rx := .body, bytes := [0, 1] }).clc.rx ≠ .hunt ∧
      [(0 : Byte), 0] ≠ be 2 (crc16 (be 2 3 ++ 4 :: [5, 6])).toNat ∧
      (([0xC5, 0, 3, 4, 5, 6, 0, 0] : List Byte).foldl hearByte (answering State.reset)).clc.owed =
        [.reject .check (some 4)] ∧
      (State.reset.setClc { State.reset.clc with rx := .length, bytes := [] }).clc.rx = .length := by decide +kernel

theorem test_AnswersAndOwedAnswers :
    powered State.reset = true ∧ State.reset.clc.answer = none ∧ (answering State.reset).clc.answer ≠ none ∧
      powered restartTaken = true ∧ restartTaken.smr.restart ≠ none ∧ restartTaken.clc.rx = .hunt ∧
      ((linkFrame 0xC5 0x04 []).foldl hearByte restartTaken) = restartTaken ∧ beValue [0, 0] = 0 ∧
      ((linkFrame 0xC5 0x04 []).foldl hearByte (answering State.reset)).clc.buffer = some ⟨4, []⟩ ∧
      (answering (State.reset.setSmr { State.reset.smr with restart := some .epoch })).smr.restart = some .epoch ∧
      (answering State.reset).clc.owed = [] ∧ (answering State.reset).clc.buffer = none ∧
      (placeReject .check none (answering State.reset)).clc.owed = [.reject .check none] ∧
      (placeFrame ⟨4, []⟩ (answering State.reset)).clc.buffer = some ⟨4, []⟩ ∧
      (placeFrame ⟨4, []⟩ (answering State.reset)).clc.owed = [.request] ∧
      parseRequest 4 [] = .request .status ∧ parseRequest 0x08 [] = .unassigned ∧ parseRequest 0xFE [] = .unassigned ∧
      parseRequest 4 [0] = .badLength ∧ parseRequest 0x1C [2] = .badCode ∧
      4 ≤ ((List.range 4).foldl (fun s _ => placeReject .check none s) (answering State.reset)).clc.owed.length := by
  decide +kernel

theorem test_FramesCarryTheirRequests :
    listening State.reset = true ∧ State.reset.clc.rx = .hunt ∧ answerIdle State.reset.clc = true ∧
      parseRequest 0x13 [0x06, 0x40] = .request (.setK 1600) ∧ (ownerOf (.setK 1600)).isSome = true ∧
      ((linkFrame 0xC5 0x13 [0x06, 0x40]).foldl hearByte State.reset).miu.k = 1600 := by decide +kernel

theorem test_SupplyFailureStopsTheBlocks :
    powered (cab .running) = true ∧ (cab .running).transit.fen = [] ∧ (cab .running).hire .s0 = some (hireIn .running) ∧
      (failSupply true (cab .running)).hireState .s0 = some .suspended ∧
      (failSupply false (cab .running)).smr.closing = false ∧ (cab .running).transit.sau = [] ∧
      (cab .running).sau.shift ≠ .closed ∧ closed.sau.shift = .closed ∧
      (failSupply true (opened.setMiu { opened.miu with secondCount := 9 })).sau.live.rejectedDistance = 9 ∧
      (failSupply true State.reset).smr.supply = .down ∧ (cab .running).smr.pins = ⟨true, true⟩ := by
  decide +kernel

/-- A part without supply, its store marked, with a PAYING hire and an entry. -/
def down (st : AuthState) : State := failSupply true (paying st none)

theorem test_SupplyReturnStartsTheBlocks :
    (down .handed).smr.supply = .down ∧ (down .handed).smr.closing = true ∧ (down .handed).smr.format = .own ∧
      (down .handed).smr.agrees = true ∧ (down .handed).hire .s0 = some (hireIn .paying) ∧
      (down .withdrawn).stu.queue = [entry .withdrawn] ∧ (failSupply true (cab .due)).hireState .s0 = some .due ∧
      (down .handed).sau.shift ≠ .closed ∧ (failSupply true closed).sau.shift = .closed ∧
      (failSupply false closed).smr.closing = false ∧ (failSupply false closed).smr.restart = none ∧
      (failSupply false closed).transit = ⟨[], [], [], []⟩ ∧ (hireIn .paying).number = (entry .handed).hire ∧
      (failSupply true (cab .running)).hire .s0 = some (hireIn .suspended) ∧ (hireIn .suspended).source = .schedule ∧
      (down .handed).smr.loss = some .epoch ∧
      (returnSupply .intact false (some ⟨0, ⟨true, ⟨true, false⟩⟩⟩) (down .handed)).smr.loss = some .epoch ∧
      (returnSupply .intact false (some ⟨3, ⟨false, ⟨true, false⟩⟩⟩) (down .handed)).smr.closing = false ∧
      (returnSupply .intact false (some ⟨3, ⟨true, ⟨true, false⟩⟩⟩) (down .handed)).smr.closing = true ∧
      (returnSupply .vbakFailed false (some ⟨3, ⟨true, ⟨true, false⟩⟩⟩) (down .handed)).smr.format = .zero := by decide +kernel

/-! ## Properties that every step keeps -/

theorem test_AccountsAreKept :
    seatsTaken (cab .due).fen.slots ≤ (cab .due).fen.seats ∧ (cab .due).sau.shift = .opened ∧
      (cab .due).sau.slot0 = .reserved ∧ (cab .due).sau.slot1 ≠ .reserved ∧ (hireIn .due).bill = some ⟨0, 1000, 1000⟩ ∧
      (cab .due).piu.loop = .none ∧ (cab .due).piu.phase = .none := by decide +kernel

theorem test_NoticesAreTruthful :
    1 ≤ State.reset.vbu.lagLimit ∧ State.reset.clc.notices.displayStale.holds = displayStale State.reset ∧
      State.reset.clc.notices.authWaiting.holds = authWaiting State.reset ∧
      State.reset.clc.notices.alert.holds = State.reset.sgu.latch := by decide +kernel

theorem test_ListsAreKept :
    ((signIn .running update).sgu.list.map (·.role)).Nodup ∧ opened.vbu.write ≠ opened.vbu.ready ∧
      (paying .handed none).stu.queue.length ≤ 8 ∧ State.reset.clc.owed.length ≤ 4 := by decide +kernel

end Sys2Proof.Tests
end

/-! ## Calibration and the k-factor (R5 to R8)

The checks that CAL_BEGIN and SET_K share, then each of the four requests once for each of its outcomes. -/

namespace Sys2Proof.Machine

/-! ### Ranges, the shift and the answer of a request -/

theorem within_eq_true_iff {lo hi n : Nat} : within lo hi n = true ↔ lo ≤ n ∧ n ≤ hi := by
  simp [within]

theorem within_eq_false_iff {lo hi n : Nat} : within lo hi n = false ↔ n < lo ∨ hi < n := by
  rw [← Bool.not_eq_true, within_eq_true_iff]
  omega

theorem shiftRuns_eq_true_iff {s : State} : shiftRuns s = true ↔ s.sau.shift ≠ .closed := by
  simp [shiftRuns]

theorem shiftRuns_eq_false_iff {s : State} : shiftRuns s = false ↔ s.sau.shift = .closed := by
  simp [shiftRuns]

/-- A request its owner carries out is answered OK with the owner's bytes (R184). -/
theorem request_of_served {kind : Byte} {f : State → Served} {s t : State} {p : List Byte}
    (hl : listening s = true) (hf : f s = served p t) : request kind f s = .next (answered kind .ok p t) := by
  rw [request_listening hl, hf, served_status, served_payload, served_state]

/-- A request its owner refuses is answered with the status alone (R184). -/
theorem request_of_refuse {kind : Byte} {f : State → Served} {s : State} {st : Status}
    (hl : listening s = true) (hf : f s = refuse st s) : request kind f s = .next (answered kind st [] s) := by
  rw [request_listening hl, hf, refuse_status, refuse_payload, refuse_state]

/-! ### The checks that CAL_BEGIN and SET_K share -/

/-- An ACTIVE run is found first, whatever the seal and the shift (R5, R8). -/
theorem metrologyRefusal_active {s : State} (ha : s.miu.calActive = true) : metrologyRefusal s = some .busy := by
  simp [metrologyRefusal, ha]

/-- A CLOSED seal is found before the shift is looked at (R5, R8). -/
theorem metrologyRefusal_sealed {s : State} (ha : s.miu.calActive = false) (ho : s.miu.sealOpen = false) :
    metrologyRefusal s = some .sealed := by
  simp [metrologyRefusal, ha, ho]

theorem metrologyRefusal_shift {s : State} (ha : s.miu.calActive = false) (ho : s.miu.sealOpen = true)
    (hs : s.sau.shift ≠ .closed) : metrologyRefusal s = some .notAllowed := by
  simp [metrologyRefusal, ha, ho, shiftRuns_eq_true_iff.2 hs]

theorem metrologyRefusal_none {s : State} (ha : s.miu.calActive = false) (ho : s.miu.sealOpen = true)
    (hs : s.sau.shift = .closed) : metrologyRefusal s = none := by
  simp [metrologyRefusal, ha, ho, shiftRuns_eq_false_iff.2 hs]

/-! ### CAL_BEGIN (R5) -/

theorem serveCalBegin_refused {s : State} {st : Status} (h : metrologyRefusal s = some st) :
    serveCalBegin s = refuse st s := by
  simp [serveCalBegin, h]

theorem serveCalBegin_begins {s : State} (h : metrologyRefusal s = none) :
    serveCalBegin s = served [] (s.setMiu { s.miu with calActive := true, rawPulses := 0 }) := by
  simp [serveCalBegin, h]

/-! ### CAL_END (R6) -/

theorem serveCalEnd_none {s : State} (length : Nat) (ha : s.miu.calActive = false) :
    serveCalEnd length s = refuse .notAllowed s := by
  simp [serveCalEnd, ha]

theorem serveCalEnd_badLength {s : State} {length : Nat} (ha : s.miu.calActive = true)
    (hlen : within 100 5000 length = false) : serveCalEnd length s = refuse .badField s := by
  simp [serveCalEnd, ha, hlen]

/-- A measured k out of range is refused and the run goes on (R6). -/
theorem serveCalEnd_badK {s : State} {length : Nat} (ha : s.miu.calActive = true)
    (hlen : within 100 5000 length = true) (hk : kInRange (measuredK s.miu.rawPulses length) = false) :
    serveCalEnd length s = refuse .badField s := by
  simp [serveCalEnd, ha, hlen, hk]

theorem serveCalEnd_measures {s : State} {length : Nat} (ha : s.miu.calActive = true)
    (hlen : within 100 5000 length = true) (hk : kInRange (measuredK s.miu.rawPulses length) = true) :
    serveCalEnd length s = served (be 2 (measuredK s.miu.rawPulses length))
      (raise .calDone (s.setMiu
        { changeK (measuredK s.miu.rawPulses length) s.miu with calActive := false, rawPulses := 0 })) := by
  simp [serveCalEnd, ha, hlen, hk]

/-! ### CAL_ABORT (R7) -/

theorem serveCalAbort_none {s : State} (ha : s.miu.calActive = false) : serveCalAbort s = refuse .notAllowed s := by
  simp [serveCalAbort, ha]

theorem serveCalAbort_aborts {s : State} (ha : s.miu.calActive = true) :
    serveCalAbort s = served [] (s.setMiu { s.miu with calActive := false, rawPulses := 0 }) := by
  simp [serveCalAbort, ha]

/-! ### SET_K (R8) -/

theorem serveSetK_refused {s : State} {st : Status} (k : Nat) (h : metrologyRefusal s = some st) :
    serveSetK k s = refuse st s := by
  simp [serveSetK, h]

theorem serveSetK_badK {s : State} {k : Nat} (h : metrologyRefusal s = none) (hk : kInRange k = false) :
    serveSetK k s = refuse .badField s := by
  simp [serveSetK, h, hk]

theorem serveSetK_sets {s : State} {k : Nat} (h : metrologyRefusal s = none) (hk : kInRange k = true) :
    serveSetK k s = served [] (s.setMiu (changeK k s.miu)) := by
  simp [serveSetK, h, hk]

/-- A failed check of R5 and R8 refuses CAL_BEGIN and SET_K alike. -/
theorem exec_calBegin_setK_of_refusal {s : State} {st : Status} (k : Nat) (hl : listening s = true)
    (h : metrologyRefusal s = some st) :
    exec .calBegin s = .next (answered 0x10 st [] s) ∧ exec (.setK k) s = .next (answered 0x13 st [] s) :=
  ⟨request_of_refuse hl (serveCalBegin_refused h), request_of_refuse hl (serveSetK_refused k h)⟩

/-- Settles O6: each clause is the outcome of one request under its checks, answered as R184 says. -/
theorem calibrationAndKFactor : Obligations.CalibrationAndKFactor := by
  intro s hl
  refine ⟨?calBegin, ?calEnd, ?calEndNone, ?calEndLength, ?calEndK, ?calAbortNone, ?calAbort, ?setK, ?busy, ?sealed,
    ?shiftRuns, ?setKRange⟩
  case calBegin =>
    intro ha ho hs
    exact request_of_served hl (serveCalBegin_begins (metrologyRefusal_none ha ho hs))
  case calEnd =>
    intro length ha hlo hhi hk hk'
    exact request_of_served hl
      (serveCalEnd_measures ha (within_eq_true_iff.2 ⟨hlo, hhi⟩) (within_eq_true_iff.2 ⟨hk, hk'⟩))
  case calEndNone =>
    intro length ha
    exact request_of_refuse hl (serveCalEnd_none length ha)
  case calEndLength =>
    intro length ha hlen
    exact request_of_refuse hl (serveCalEnd_badLength ha (within_eq_false_iff.2 hlen))
  case calEndK =>
    intro length ha hlo hhi hk
    exact request_of_refuse hl
      (serveCalEnd_badK ha (within_eq_true_iff.2 ⟨hlo, hhi⟩) (within_eq_false_iff.2 hk))
  case calAbortNone =>
    intro ha
    exact request_of_refuse hl (serveCalAbort_none ha)
  case calAbort =>
    intro ha
    exact request_of_served hl (serveCalAbort_aborts ha)
  case setK =>
    intro k ha ho hs hlo hhi
    exact request_of_served hl
      (serveSetK_sets (metrologyRefusal_none ha ho hs) (within_eq_true_iff.2 ⟨hlo, hhi⟩))
  case busy =>
    intro k ha
    exact exec_calBegin_setK_of_refusal k hl (metrologyRefusal_active ha)
  case sealed =>
    intro k ha ho
    exact exec_calBegin_setK_of_refusal k hl (metrologyRefusal_sealed ha ho)
  case shiftRuns =>
    intro k ha ho hs
    exact exec_calBegin_setK_of_refusal k hl (metrologyRefusal_shift ha ho hs)
  case setKRange =>
    intro k ha ho hs hk
    exact request_of_refuse hl (serveSetK_badK (metrologyRefusal_none ha ho hs) (within_eq_false_iff.2 hk))

end Sys2Proof.Machine

/-! ## The staged holidays (R21)

The two requests of STAGE_HOLIDAY, each once for each of its outcomes. -/

namespace Sys2Proof.Machine

/-! ### STAGE_HOLIDAY ADD -/

theorem serveStageHolidayAdd_noDate {s : State} {d : Date} (hd : d.inRange = false) :
    serveStageHolidayAdd d s = refuse .badField s := by
  simp [serveStageHolidayAdd, hd]

/-- A date that is staged stays as it is, also in a full list (R21). -/
theorem serveStageHolidayAdd_staged {s : State} {d : Date} (hd : d.inRange = true)
    (hm : d ∈ s.tfs.staged.holidays) : serveStageHolidayAdd d s = served [] s := by
  simp [serveStageHolidayAdd, hd, hm]

theorem serveStageHolidayAdd_full {s : State} {d : Date} (hd : d.inRange = true)
    (hm : d ∉ s.tfs.staged.holidays) (hf : 24 ≤ s.tfs.staged.holidays.length) :
    serveStageHolidayAdd d s = refuse .full s := by
  simp [serveStageHolidayAdd, hd, hm, hf]

theorem serveStageHolidayAdd_inserts {s : State} {d : Date} (hd : d.inRange = true)
    (hm : d ∉ s.tfs.staged.holidays) (hf : s.tfs.staged.holidays.length < 24) :
    serveStageHolidayAdd d s = served [] (s.setStaged { s.tfs.staged with
      holidays := (s.tfs.staged.holidays.filter fun x => x.before d) ++
        d :: s.tfs.staged.holidays.filter fun x => d.before x }) := by
  simp [serveStageHolidayAdd, hd, hm, hf]

/-! ### STAGE_HOLIDAY REMOVE -/

theorem serveStageHolidayRemove_noDate {s : State} {d : Date} (hd : d.inRange = false) :
    serveStageHolidayRemove d s = refuse .badField s := by
  simp [serveStageHolidayRemove, hd]

theorem serveStageHolidayRemove_notStaged {s : State} {d : Date} (hd : d.inRange = true)
    (hm : d ∉ s.tfs.staged.holidays) : serveStageHolidayRemove d s = refuse .notFound s := by
  simp [serveStageHolidayRemove, hd, hm]

theorem serveStageHolidayRemove_removes {s : State} {d : Date} (hd : d.inRange = true)
    (hm : d ∈ s.tfs.staged.holidays) :
    serveStageHolidayRemove d s = served [] (s.setStaged { s.tfs.staged with
      holidays := s.tfs.staged.holidays.filter fun x => x != d }) := by
  simp [serveStageHolidayRemove, hd, hm]

/-- Settles O14: each clause is the outcome of ADD or REMOVE under its checks, answered as R184 says. -/
theorem holidaysAreStaged : Obligations.HolidaysAreStaged := by
  intro s y m d hl
  refine ⟨?noDate, fun hd => ⟨?staged, ?notStaged⟩⟩
  case noDate =>
    intro hd
    exact ⟨request_of_refuse hl (serveStageHolidayAdd_noDate hd),
      request_of_refuse hl (serveStageHolidayRemove_noDate hd)⟩
  case staged =>
    intro hm
    exact ⟨request_of_served hl (serveStageHolidayAdd_staged hd hm),
      request_of_served hl (serveStageHolidayRemove_removes hd hm)⟩
  case notStaged =>
    intro hm
    refine ⟨request_of_refuse hl (serveStageHolidayRemove_notStaged hd hm), ?full, ?inserts⟩
    case full =>
      intro hf
      exact request_of_refuse hl (serveStageHolidayAdd_full hd hm hf)
    case inserts =>
      intro hf
      exact request_of_served hl (serveStageHolidayAdd_inserts hd hm hf)

end Sys2Proof.Machine

/-! ## Break, resume and close of a shift (R116 to R118)

When the cab is empty and what the sign then shows, the SAU after a close field by field, and each of the three requests
once for each of its outcomes. -/

namespace Sys2Proof.Machine

/-! ### The empty cab and the AVAILABILITY content -/

theorem cabEmpty_eq_true_iff {s : State} : cabEmpty s = true ↔ occupied s = false := by
  simp [cabEmpty]

@[simp] theorem desiredImage_availability (s : State) : (desiredImage s).availability = .avail (availContent s) := rfl

/-- The sign is OFF outside an OPEN shift, whatever the hires (R133). -/
theorem availContent_off {s : State} (h : s.sau.shift ≠ .opened) : availContent s = .off := by
  simp [availContent, h]

theorem availContent_free {s : State} (h : s.sau.shift = .opened) (ho : occupied s = false) :
    availContent s = .free := by
  simp [availContent, h, cabEmpty_eq_true_iff.2 ho]

/-! ### SHIFT_BREAK and SHIFT_RESUME (R116) -/

@[simp] theorem changeShift_sau (st : ShiftState) (s : State) :
    (changeShift st s).sau = { s.sau with shift := st } := rfl

/-- The sign is handed the new shift state (R113): OFF for any but OPEN. -/
theorem changeShift_availability_off {st : ShiftState} (s : State) (h : st ≠ .opened) :
    (changeShift st s).sgu.desired.availability = .avail .off := congrArg Content.avail (availContent_off h)

theorem changeShift_availability_free {s : State} (ho : occupied s = false) :
    (changeShift .opened s).sgu.desired.availability = .avail .free := congrArg Content.avail (availContent_free rfl ho)

/-- A change of the shift state reaches the SAU and the SGU alone (R113). -/
theorem changeShift_frame (st : ShiftState) (s : State) :
    (changeShift st s).fen = s.fen ∧ (changeShift st s).miu = s.miu ∧ (changeShift st s).tfs = s.tfs ∧
      (changeShift st s).stu = s.stu ∧ outsideKept s (changeShift st s) := by
  simp [changeShift, outsideKept]

theorem serveShiftBreak_breaks {s : State} (hs : s.sau.shift = .opened) (ho : occupied s = false) :
    serveShiftBreak s = served [] (changeShift .onBreak s) := by
  simp [serveShiftBreak, hs, cabEmpty_eq_true_iff.2 ho]

theorem serveShiftBreak_refused {s : State} (h : s.sau.shift ≠ .opened ∨ occupied s = true) :
    serveShiftBreak s = refuse .notAllowed s := by
  have hn : ¬ (s.sau.shift = .opened ∧ cabEmpty s = true) := by
    rintro ⟨hs, he⟩
    rcases h with h | h
    · exact h hs
    · simp [cabEmpty, h] at he
  rw [serveShiftBreak, if_neg hn]

theorem serveShiftResume_resumes {s : State} (hs : s.sau.shift = .onBreak) :
    serveShiftResume s = served [] (changeShift .opened s) := by
  rw [serveShiftResume, if_pos hs]

theorem serveShiftResume_refused {s : State} (hs : s.sau.shift ≠ .onBreak) :
    serveShiftResume s = refuse .notAllowed s := by
  rw [serveShiftResume, if_neg hs]

/-! ### The SAU at a close (R117, R118) -/

@[simp] theorem closeSau_shift (s : State) : (closeSau s).shift = .closed := by
  unfold closeSau; split <;> rfl

@[simp] theorem closeSau_number (s : State) : (closeSau s).number = s.sau.number := by
  unfold closeSau; split <;> rfl

@[simp] theorem closeSau_live (s : State) : (closeSau s).live = closedRecord s := by
  unfold closeSau; split <;> rfl

/-- The slot that was RESERVED holds the closed record with R118's three copies, not yet fetched; it is marked as the
later close when the other slot is HELD (R117; log entry 15). -/
theorem closeSau_filled (s : State) :
    (if s.sau.slot0 = .reserved then (closeSau s).slot0 else (closeSau s).slot1) =
      .held ⟨(closeSau s).live, s.miu.sealCount, s.miu.calCounter, s.tfs.version⟩ false
        (if (if s.sau.slot0 = .reserved then s.sau.slot1 else s.sau.slot0).isHeld then 1 else 0) := by
  by_cases h : s.sau.slot0 = .reserved
  · simp [closeSau, closingSummary, h]
  · simp [closeSau, closingSummary, h]

/-! ### SHIFT_CLOSE (R117) -/

/-- R117's conditions: a shift to close, and neither a hire nor a session nor an authorization entry left. -/
theorem closeAllowed_eq_true_iff {s : State} :
    closeAllowed s = true ↔
      s.sau.shift ≠ .closed ∧ occupied s = false ∧ s.tlc.session = none ∧ s.stu.queue = [] := by
  simp [closeAllowed, shiftRuns_eq_true_iff, cabEmpty_eq_true_iff, and_assoc]

theorem closeAllowed_eq_false_iff {s : State} :
    closeAllowed s = false ↔
      s.sau.shift = .closed ∨ occupied s = true ∨ s.tlc.session ≠ none ∨ s.stu.queue ≠ [] := by
  rw [← Bool.not_eq_true, closeAllowed_eq_true_iff]
  simp only [not_and_or, not_not, Bool.not_eq_false, ne_eq]

theorem serveShiftClose_closes {s : State} (h : closeAllowed s = true) :
    serveShiftClose s = served (be 2 s.sau.number ++ be 1 (if s.sau.slot0 = .reserved then 0 else 1))
      (raise .summaryReady (recomputeSign (s.setSau (closeSau s)))) := by
  rw [serveShiftClose, if_pos h]

theorem serveShiftClose_refused {s : State} (h : closeAllowed s = false) :
    serveShiftClose s = refuse .notAllowed s := by
  simp [serveShiftClose, h]

/-- Settles O39: each clause is the outcome of one request under its checks, answered as R184 says; the sign follows the
new shift state. -/
theorem shiftsBreakResumeAndClose : Obligations.ShiftsBreakResumeAndClose := by
  intro s hl
  refine ⟨?breaks, ?breakRefused, ?resumes, ?resumeRefused, ?closes, ?closeRefused⟩
  case breaks =>
    intro hs ho
    exact ⟨_, request_of_served hl (serveShiftBreak_breaks hs ho), rfl, changeShift_sau .onBreak s,
      changeShift_availability_off s (by decide), changeShift_frame .onBreak s⟩
  case breakRefused =>
    intro h
    exact request_of_refuse hl (serveShiftBreak_refused h)
  case resumes =>
    intro hs
    exact ⟨_, request_of_served hl (serveShiftResume_resumes hs), rfl, changeShift_sau .opened s,
      changeShift_availability_free, changeShift_frame .opened s⟩
  case resumeRefused =>
    intro hs
    exact request_of_refuse hl (serveShiftResume_refused hs)
  case closes =>
    intro hs ho ht hq
    have hc : closeAllowed s = true := closeAllowed_eq_true_iff.2 ⟨hs, ho, ht, hq⟩
    refine ⟨_, request_of_served hl (serveShiftClose_closes hc), rfl, closeSau_shift s, closeSau_number s,
      closeSau_live s, ⟨_, closeSau_filled s⟩, raise_get_kind .summaryReady _, ?sign, ?frame⟩
    case sign =>
      simp [availContent_off]
    case frame =>
      simp [outsideKept]
  case closeRefused =>
    intro h
    exact request_of_refuse hl (serveShiftClose_refused (closeAllowed_eq_false_iff.2 h))

end Sys2Proof.Machine

/-! ## Notices: ATTN, GET_NOTICE and SET_NOTICE_ENABLES (R186 to R190)

The kinds in the order of their priority, the first one raised, the CLC after a kind is handed out and after the enable set
is replaced, and each of the two requests once for each of its outcomes. -/

namespace Sys2Proof.Machine

/-! ### The kinds in the order of their priority (Table 9-4) -/

theorem NoticeKind.mem_all (k : NoticeKind) : k ∈ NoticeKind.all := by
  cases k <;> decide

theorem NoticeKind.all_pairwise_code_lt : NoticeKind.all.Pairwise fun j k => j.code < k.code := by
  decide

theorem NoticeKind.nodup_all : NoticeKind.all.Nodup :=
  NoticeKind.all_pairwise_code_lt.imp fun {_ _} hlt heq => absurd (congrArg NoticeKind.code heq) hlt.ne

/-! ### ATTN and the first kind raised -/

/-- ATTN is low exactly while a kind is raised, RESETN high and the supply present (R188). -/
theorem attnLow_eq_true_iff {s : State} :
    attnLow s = true ↔
      s.smr.pins.resetHigh = true ∧ s.smr.pins.present = true ∧ ∃ k, (s.clc.notices.get k).raised = true := by
  simp [attnLow, NoticeKind.mem_all, and_assoc]

theorem firstRaised_eq_none {n : NoticeSet} (h : ∀ k, (n.get k).raised = false) : firstRaised n = none := by
  simp [firstRaised, h]

/-- The kinds stand in the order of their codes, so the first one raised is the raised kind of highest priority (R189). -/
theorem firstRaised_eq_some {n : NoticeSet} {k : NoticeKind} (hk : (n.get k).raised = true)
    (hlt : ∀ j : NoticeKind, j.code < k.code → (n.get j).raised = false) : firstRaised n = some k := by
  obtain ⟨before, after, hall⟩ := List.append_of_mem k.mem_all
  have hsorted : (before ++ k :: after).Pairwise fun i j => i.code < j.code :=
    hall ▸ NoticeKind.all_pairwise_code_lt
  obtain ⟨_, _, hbefore⟩ := List.pairwise_append.1 hsorted
  rw [firstRaised, List.find?_eq_some_iff_append]
  exact ⟨hk, before, after, hall, fun j hj => by simp [hlt j (hbefore j hj k List.mem_cons_self)]⟩

/-! ### GET_NOTICE (R189) -/

/-- A kind handed out is cleared in the CLC alone, with the detail of SUPPLY where it is SUPPLY (R189). -/
theorem handOut_eq_setClc (k : NoticeKind) (s : State) :
    handOut k s = s.setClc
      { s.clc with
        notices := s.clc.notices.set k (s.clc.notices.get k).cleared
        supplyDetail := if k = .supply then none else s.clc.supplyDetail } := by
  by_cases h : k = .supply
  · simp [handOut, dropDetail, State.setNotice, h]
  · simp [handOut, State.setNotice, h]

theorem handOut_notices (k : NoticeKind) (s : State) :
    (handOut k s).clc.notices = s.clc.notices.set k (s.clc.notices.get k).cleared := by
  rw [handOut_eq_setClc, State.setClc_clc]

theorem serveGetNotice_none {s : State} (h : firstRaised s.clc.notices = none) :
    serveGetNotice s = served [0, 0, 0, 0, 0, 0] s := by
  rw [serveGetNotice, h]
  rfl

theorem serveGetNotice_some {s : State} {k : NoticeKind} (h : firstRaised s.clc.notices = some k) :
    serveGetNotice s = served
      (be 1 k.code ++ be 2 (if k.isCondition then 0 else (s.clc.notices.get k).reasons.toNat)
        ++ flagByte (k.isCondition && (s.clc.notices.get k).holds)
        ++ be 2 (raisedWord (handOut k s).clc.notices).toNat ++ noticeDetail s k)
      (handOut k s) := by
  rw [serveGetNotice, h, handOut_notices]

/-! ### SET_NOTICE_ENABLES (R190) -/

/-- Updates of other kinds leave a kind as it is. -/
theorem NoticeSet.get_foldl_set_of_notMem (f : NoticeKind → Notice → Notice) {l : List NoticeKind} {k : NoticeKind}
    (n : NoticeSet) (hk : k ∉ l) : (l.foldl (fun m j => m.set j (f j (m.get j))) n).get k = n.get k := by
  induction l generalizing n with
  | nil => rfl
  | cons j l ih =>
    obtain ⟨hkj, hkl⟩ := not_or.1 (List.mem_cons.not.1 hk)
    rw [List.foldl_cons, ih _ hkl, NoticeSet.get_set_ne _ _ hkj]

/-- Each kind of a list updated once is read back as its own update. -/
theorem NoticeSet.get_foldl_set_of_mem (f : NoticeKind → Notice → Notice) {l : List NoticeKind} {k : NoticeKind}
    (n : NoticeSet) (hl : l.Nodup) (hk : k ∈ l) :
    (l.foldl (fun m j => m.set j (f j (m.get j))) n).get k = f k (n.get k) := by
  induction l generalizing n with
  | nil => exact absurd hk List.not_mem_nil
  | cons j l ih =>
    obtain ⟨hjl, hl⟩ := List.nodup_cons.1 hl
    rw [List.foldl_cons]
    rcases List.mem_cons.1 hk with rfl | hkl
    · rw [NoticeSet.get_foldl_set_of_notMem f _ hjl, NoticeSet.get_set_same]
    · rw [ih _ hl hkl, NoticeSet.get_set_ne _ _ (ne_of_mem_of_not_mem hkl hjl)]

/-- Every kind follows its own bit of the new enable set (Table 11-1). -/
theorem enableAll_get (enables : BitVec 16) (n : NoticeSet) (k : NoticeKind) :
    (enableAll enables n).get k = (n.get k).enable k.isCondition (enables.getLsbD (k.code - 1)) :=
  NoticeSet.get_foldl_set_of_mem (fun j v => v.enable j.isCondition (enables.getLsbD (j.code - 1))) n
    NoticeKind.nodup_all k.mem_all

/-- A kind disabled is dropped, a kind enabled is raised where its condition holds, any other stays (R190). -/
theorem Notice.enable_eq (condition on : Bool) (n : Notice) :
    n.enable condition on =
      if n.enabled = true ∧ on = false then ⟨false, false, 0, n.holds⟩
      else if n.enabled = false ∧ on = true then ⟨true, condition && n.holds, 0, n.holds⟩
      else n := by
  simp [Notice.enable, Notice.cleared]

theorem serveSetNoticeEnables_reserved {enables : BitVec 16} (s : State)
    (h : enables.getLsbD 14 = true ∨ enables.getLsbD 15 = true) :
    serveSetNoticeEnables enables s = refuse .badField s := by
  rw [serveSetNoticeEnables, if_pos (Bool.or_eq_true_iff.2 h)]

/-- The enable set is replaced in the CLC alone; the detail of SUPPLY goes where SUPPLY is left disabled (R190). -/
theorem serveSetNoticeEnables_replaces {enables : BitVec 16} (s : State) (h14 : enables.getLsbD 14 = false)
    (h15 : enables.getLsbD 15 = false) :
    serveSetNoticeEnables enables s = served
      (be 2 (enabledWord (enableAll enables s.clc.notices)).toNat
        ++ be 2 (raisedWord (enableAll enables s.clc.notices)).toNat)
      (s.setClc
        { s.clc with
          notices := enableAll enables s.clc.notices
          supplyDetail :=
            if (enableAll enables s.clc.notices).supply.enabled then s.clc.supplyDetail else none }) := by
  have hbits : (enables.getLsbD 14 || enables.getLsbD 15) = false := Bool.or_eq_false_iff.2 ⟨h14, h15⟩
  by_cases h : (enableAll enables s.clc.notices).supply.enabled = true
  · simp only [serveSetNoticeEnables, hbits, h, Bool.false_eq_true, if_false, if_true]
  · simp only [serveSetNoticeEnables, hbits, h, dropDetail, State.setClc_clc, State.setClc_setClc, Bool.false_eq_true,
      if_false]

/-! ### The obligation -/

/-- A request that writes the CLC alone leaves every other block as it was. -/
theorem answered_setClc_frame (kind : Byte) (st : Status) (p : List Byte) (s : State) (b : Clc) :
    (answered kind st p (s.setClc b)).miu = s.miu ∧ (answered kind st p (s.setClc b)).fen = s.fen ∧
      (answered kind st p (s.setClc b)).vbu = s.vbu ∧ (answered kind st p (s.setClc b)).stu = s.stu ∧
      (answered kind st p (s.setClc b)).sau = s.sau ∧ (answered kind st p (s.setClc b)).sgu = s.sgu ∧
      outsideKept s (answered kind st p (s.setClc b)) := by
  simp [outsideKept]

/-- Settles O50: a reason changes its own kind as R186 says, and each of the two requests is answered with the CLC that
`handOut_eq_setClc` or `serveSetNoticeEnables_replaces` gives. -/
theorem noticesAreRaisedAndHandedOut : Obligations.NoticesAreRaisedAndHandedOut := by
  intro s
  refine ⟨attnLow_eq_true_iff, ?raises, ?nothingRaised, ?handsOut, ?replaces, ?reservedBits⟩
  case raises =>
    rintro r n rfl
    exact ⟨raise_get_kind r s, fun k => raise_get_ne r s⟩
  case nothingRaised =>
    intro hl hnone
    exact request_of_served hl (serveGetNotice_none (firstRaised_eq_none hnone))
  case handsOut =>
    rintro k n hl rfl hk hlt
    have hserve := serveGetNotice_some (firstRaised_eq_some hk hlt)
    rw [handOut_eq_setClc] at hserve
    exact ⟨_, request_of_served hl hserve, NoticeSet.get_set_same .., fun j => NoticeSet.get_set_ne _ _, rfl, rfl,
      answered_setClc_frame ..⟩
  case replaces =>
    intro enables hl h14 h15
    refine ⟨_, request_of_served hl (serveSetNoticeEnables_replaces s h14 h15), rfl, ?kinds, rfl,
      answered_setClc_frame ..⟩
    case kinds =>
      rintro k n rfl
      exact (enableAll_get enables s.clc.notices k).trans (Notice.enable_eq ..)
  case reservedBits =>
    intro enables hl h
    exact request_of_refuse hl (serveSetNoticeEnables_reserved s h)

end Sys2Proof.Machine

/-! ## What a command can do

A command is a request of an owning block, an event that the blocks take while they run, a row of the console link, or one
of the rows of the clock, the alarm and the supply. `exec_eq` says which, once for every command; what every step keeps is
then shown of the owners, of the events and of the few other rows. -/

namespace Sys2Proof.Machine

/-! ### Requests and events -/

/-- What the blocks do for a command that they take as an event of a port or between blocks while they run; none for the
others. -/
def eventOf : Instr → Option (State → State)
  | .wheelPulse => some fun s => s.setMiu (takePulse s.miu)
  | .scheduleEvaluation => some takeMinuteEvent
  | .fenBandChange => some (takeFenEvent FenEvent.bandChange? applyBandChange)
  | .fenSecondReport => some (takeFenEvent FenEvent.report? applyReport)
  | .displayStaleOnset => some fun s =>
    match firstReport s with
    | some (r, t) => if onsetAhead s then applyReport r t else s
    | none => s
  | .sauSecondReport => some takeSauReport
  | .sealOpened => some fun s => if s.miu.sealTaken ∧ ¬ s.miu.sealOpen then openSeal s else s
  | .sealClosed => some fun s => if s.miu.sealTaken ∧ s.miu.sealOpen then closeSeal s else s
  | .sealInitialSample high => some fun s =>
    if s.miu.sealTaken then s else if high then openSeal s else findClosed s
  | .composition => some takeComposition
  | .confirmation => some (takeFenEvent FenEvent.confirm? applyConfirmation)
  | .authDeadlineExpiry id => some (expireEntry id)
  | .terminalExchange => some beginExchange
  | .exchangeUnanswered => some fun s => if s.tlc.exchange.isSome then missReply s else s
  | .terminalLinkLost => some fun s =>
    if s.tlc.exchange.isSome ∧ s.tlc.up ∧ s.tlc.unanswered = 4 then missReply s else s
  | .goodReply frame => some fun s =>
    if s.tlc.exchange.isSome then
      match goodReplyBody frame with
      | some r => takeReply r s
      | none => missReply s
    else s
  | .foreignStart => some fun s => s.setRbc { s.rbc with busBusy := true }
  | .busFree cause => some (freeBus cause)
  | .transferBegin => some beginTransfer
  | .transferSuccess => some transferSuccess
  | .transferFailed => some transferFailed
  | .moduleFault => some fun s => if faultAhead s then transferFailed s else s
  | .holdOffExpiry role => some fun s =>
    match roleOf role with
    | some r =>
      s.setSgu { s.sgu with list := s.sgu.list.map fun e => if e.role = r then { e with holdOff := none } else e }
    | none => s
  | .probeTimerExpiry role => some fun s =>
    match roleOf role with
    | some r => expireProbe r s
    | none => s
  | .arbitrationLost => some loseArbitration
  | .arbLimit => some fun s => if s.rbc.arbLoss = 7 then loseArbitration s else s
  | .arbitrationRestart => some restartTransfer
  | .clockStall => some stallClock
  | .busRecovery => some recoverBus
  | .lampTransferEnd => some lampTransferEnd
  | .lampTransferRetry => some fun s =>
    if s.rbc.lampRetry.isSome then beginLamp (s.setRbc { s.rbc with lampRetry := none }) else s
  | .lampLitEnd => some fun s => if s.rbc.controller = .lampTest ∧ s.rbc.phase = some .lit then lampRestore s else s
  | .frontCompletion received => some (frontCompletion received)
  | .frontTalkButton pressed => some fun s => s.setPiu { s.piu with talk := pressed }
  | .rearFrame before sync after => some (hearRear (heardBytes before sync after))
  | .damagedFrame before sync after => some (hearRear (heardBytes before sync after))
  | .chimeEnd => some chimeOver
  | .rearLinkLost => some fun s => if s.piu.rearUp then loseRear s else s
  | .pinHoldExpiry => some expirePinHold
  | .remoteLoopOn before sync after =>
    some (rearFrameIf (fun p q => p.loop == .none && q.loop == .rearRemote) (heardBytes before sync after))
  | .remoteLoopOff before sync after =>
    some (rearFrameIf (fun p q => p.loop != .none && q.loop == .none) (heardBytes before sync after))
  | .announceEnd before sync after =>
    some (rearFrameIf (fun p q => p.phase != .running && q.phase == .running) (heardBytes before sync after))
  | .testSyncLost before sync after =>
    some (rearFrameIf (fun p q => p.checker.code == 1 && q.checker.code == 0) (heardBytes before sync after))
  | .restartStart => some fun s =>
    match s.smr.restart with
    | some taken => if s.smr.supply = .starting then restartBlocks taken s else s
    | none => s
  | _ => none

theorem exec_of_ownerOf {c : Instr} {g : State → Served} (s : State) (h : ownerOf c = some g) :
    exec c s = request (BitVec.ofNat 8 (requestKind c)) g s := by
  cases c <;> cases h <;> rfl

theorem exec_of_eventOf {c : Instr} {f : State → State} (s : State) (h : eventOf c = some f) : exec c s = event f s := by
  cases c <;> cases h <;> rfl

/-- A byte heard or discarded: one with a framing error in HUNT is discarded (R178). -/
def hearRxByte (byte : RxByte) (s : State) : State :=
  if byte.framingError ∧ s.clc.rx = .hunt then s else hearByte s byte.value

/-- The rows that are neither a request nor an event taken while the blocks run. -/
def rowOf : Instr → State → State
  | .wholeSecond, s => wholeSecond s
  | .alarmActivation input, s => if powered s then takeAlarm input s else followAlarm input s
  | .consoleStartByte byte, s => hearRxByte byte s
  | .consoleFrameComplete bytes, s => bytes.foldl hearByte s
  | .lengthFieldFault bytes, s => bytes.foldl hearByte s
  | .frameGap, s => if powered s then cutFrame s else s
  | .answerEnd, s => if powered s then endAnswer s else s
  | .unknownRequest kind, s =>
    if listening s ∧ parseRequest kind [] = .unassigned then s.setAnswer (some (unknownReply kind)) else s
  | .supplyFailure loss, s => if powered s then loseSupply loss s else setPins loss.pins s
  | .supplyReturn damage stopped cut, s => if s.smr.supply = .down then returnSupply damage stopped cut s else s
  | _, s => s

/-- What a command can do: the reply of its owner, an event, or one of the other rows. -/
theorem exec_eq (c : Instr) (s : State) :
    (∃ g, ownerOf c = some g ∧ exec c s = request (BitVec.ofNat 8 (requestKind c)) g s) ∨
      (∃ f, eventOf c = some f ∧ exec c s = event f s) ∨ exec c s = .next (rowOf c s) := by
  by_cases ho : (ownerOf c).isSome
  · obtain ⟨g, hg⟩ := Option.isSome_iff_exists.1 ho
    exact .inl ⟨g, hg, exec_of_ownerOf s hg⟩
  · by_cases he : (eventOf c).isSome
    · obtain ⟨f, hf⟩ := Option.isSome_iff_exists.1 he
      exact .inr (.inl ⟨f, hf, exec_of_eventOf s hf⟩)
    · refine .inr (.inr ?_)
      cases c <;> first | rfl | exact absurd rfl ho | exact absurd rfl he

/-- No command stops the part. -/
theorem exec_answers (c : Instr) (s : State) : ∃ t, exec c s = .next t := by
  obtain ⟨g, -, h⟩ | ⟨f, -, h⟩ | h := exec_eq c s
  · exact ⟨_, h⟩
  · exact ⟨_, h⟩
  · exact ⟨_, h⟩

/-! ### What every step keeps -/

/-- What a property withstands that every command keeps: writes of the console link that leave the notices and bring no owed
answer beyond the fourth, reasons raised, and what the owners, the events and the other rows do. -/
structure Withstands (P : State → Prop) : Prop where
  link : ∀ s c, c.notices = s.clc.notices → (s.clc.owed.length ≤ 4 → c.owed.length ≤ 4) → P s → P (s.setClc c)
  reason : ∀ r s, P s → P (raise r s)
  starting : ∀ s, powered s = true → P s → P (s.setSmr { s.smr with supply := .starting })
  owner : ∀ c g s, ownerOf c = some g → powered s = true → P s → P (g s).state
  event : ∀ c f s, eventOf c = some f → powered s = true → P s → P (f s)
  second : ∀ s, P s → P (wholeSecond s)
  alarm : ∀ input s, powered s = true → P s → P (takeAlarm input s)
  level : ∀ input s, P s → P (followAlarm input s)
  failure : ∀ loss s, powered s = true → P s → P (loseSupply loss s)
  pins : ∀ p s, powered s = false → P s → P (setPins p s)
  back : ∀ damage stopped cut s, s.smr.supply = .down → P s → P (returnSupply damage stopped cut s)

section
variable {P : State → Prop}

/-- A write of the console link that leaves the notices and the owed answers. -/
theorem Withstands.clc (w : Withstands P) {s : State} {c : Clc} (hn : c.notices = s.clc.notices)
    (ho : c.owed = s.clc.owed) (h : P s) : P (s.setClc c) :=
  w.link s c hn (by rw [ho]; exact id) h

theorem Withstands.setAnswer (w : Withstands P) {s : State} (a : Option Answer) (h : P s) : P (s.setAnswer a) :=
  w.clc rfl rfl h

theorem Withstands.answerWith (w : Withstands P) {s : State} {c : Instr} {g : State → Served} (kind : Byte)
    (hg : ownerOf c = some g) (hp : powered s = true) (h : P s) : P (answerWith kind g s) :=
  w.setAnswer _ (w.owner c g s hg hp h)

theorem Withstands.takeRequest (w : Withstands P) {s : State} (f : Frame) (hp : powered s = true) (h : P s) :
    P (takeRequest f s) := by
  unfold Machine.takeRequest
  split
  · exact w.setAnswer _ h
  · exact w.setAnswer _ h
  · exact w.setAnswer _ h
  · split
    · next hg => exact w.answerWith _ hg hp h
    · exact w.setAnswer _ h

theorem oweReject_notices (cause : RejectCause) (kind : Option Byte) (c : Clc) :
    (oweReject cause kind c).notices = c.notices := by
  unfold oweReject; split <;> rfl

/-- A fifth owed answer is never appended (R182). -/
theorem oweReject_owed_le (cause : RejectCause) (kind : Option Byte) {c : Clc} (h : c.owed.length ≤ 4) :
    (oweReject cause kind c).owed.length ≤ 4 := by
  unfold oweReject
  split
  · next hl => simpa using hl
  · exact h

theorem Withstands.placeReject (w : Withstands P) {s : State} (cause : RejectCause) (kind : Option Byte) (h : P s) :
    P (placeReject cause kind s) := by
  unfold Machine.placeReject
  split
  · exact w.setAnswer _ h
  · exact w.link _ _ (oweReject_notices ..) (fun ho => oweReject_owed_le _ _ ho) h

theorem Withstands.placeFrame (w : Withstands P) {s : State} (f : Frame) (hp : powered s = true) (h : P s) :
    P (placeFrame f s) := by
  unfold Machine.placeFrame
  split
  · exact w.takeRequest f hp h
  · split
    · next hb => exact w.link s _ rfl (fun _ => by simpa using hb.2) h
    · refine w.reason _ _ (w.link s _ (oweReject_notices ..) (fun ho => ?_) h)
      exact oweReject_owed_le _ _ (c := { s.clc with overrunCount := satAdd max16 s.clc.overrunCount 1 }) ho

theorem unlessRestarting_keeps {s : State} {place : State → State}
    (hf : ∀ t, powered t = true → P t → P (place t)) (hp : powered s = true) (h : P s) :
    P (unlessRestarting place s) := by
  unfold unlessRestarting
  split
  · exact hf s hp h
  · exact h

theorem Withstands.checkLength (w : Withstands P) {s : State} (bytes : List Byte) (hp : powered s = true) (h : P s) :
    P (checkLength bytes s) := by
  unfold Machine.checkLength
  dsimp only
  split
  · exact unlessRestarting_keeps (fun t _ => w.placeReject _ _) hp (w.clc (s := s) rfl rfl h)
  · exact w.clc rfl rfl h

theorem Withstands.completeFrame (w : Withstands P) {s : State} (bytes : List Byte) (hp : powered s = true) (h : P s) :
    P (completeFrame bytes s) := by
  unfold Machine.completeFrame
  dsimp only
  split
  · exact unlessRestarting_keeps (fun t => w.placeFrame _) hp (w.clc (s := s) rfl rfl h)
  · exact unlessRestarting_keeps (fun t _ => w.placeReject _ _) hp (w.clc (s := s) rfl rfl h)

/-- A byte of CRX, at each place of the receiver (R178). -/
theorem Withstands.hearByte (w : Withstands P) {s : State} (b : Byte) (h : P s) : P (hearByte s b) := by
  unfold Machine.hearByte
  split
  · next hp =>
    unfold receiveByte
    dsimp only
    split
    case h_1 => split; exacts [w.clc rfl rfl h, h]
    case h_2 => split; exacts [w.clc rfl rfl h, w.checkLength _ hp h]
    case h_3 => exact w.clc rfl rfl h
    case h_4 => split; exacts [w.clc rfl rfl h, w.completeFrame _ hp h]
  · exact h

theorem Withstands.hearBytes (w : Withstands P) (bytes : List Byte) {s : State} (h : P s) :
    P (bytes.foldl Machine.hearByte s) := by
  induction bytes generalizing s with
  | nil => exact h
  | cons b bytes ih => exact ih (w.hearByte b h)

/-- The end of an answer: the start of a RESTART, or the first owed answer, which is one less owed (R182, R200). -/
theorem Withstands.endAnswer (w : Withstands P) {s : State} (hp : powered s = true) (h : P s) : P (endAnswer s) := by
  have fewer : ∀ {o : Owed} {rest : List Owed}, s.clc.owed = o :: rest → s.clc.owed.length ≤ 4 → rest.length ≤ 4 := by
    intro o rest ho
    simp only [ho, List.length_cons]
    omega
  unfold Machine.endAnswer
  dsimp only
  split
  · exact h
  · split
    · exact w.starting (s.setAnswer none) hp (w.setAnswer none h)
    · split
      · exact w.setAnswer none h
      · next ho => exact w.link s _ rfl (fewer ho) h
      · next ho =>
        split
        · exact w.takeRequest _ hp (w.link s _ rfl (fewer ho) h)
        · exact w.link s _ rfl (fewer ho) h

theorem Withstands.cutFrame (w : Withstands P) {s : State} (h : P s) : P (cutFrame s) := by
  unfold Machine.cutFrame
  split
  · exact h
  · exact w.reason _ _ (w.clc (s := s) rfl rfl h)

theorem Withstands.row (w : Withstands P) (c : Instr) {s : State} (h : P s) : P (rowOf c s) := by
  unfold rowOf
  split
  case h_1 => exact w.second s h
  case h_2 => split; exacts [w.alarm _ s ‹_› h, w.level _ s h]
  case h_3 => unfold hearRxByte; split; exacts [h, w.hearByte _ h]
  case h_4 => exact w.hearBytes _ h
  case h_5 => exact w.hearBytes _ h
  case h_6 => split; exacts [w.cutFrame h, h]
  case h_7 => split; exacts [w.endAnswer ‹_› h, h]
  case h_8 => split; exacts [w.setAnswer _ h, h]
  case h_9 => split; exacts [w.failure _ s ‹_› h, w.pins _ s (Bool.eq_false_iff.2 ‹_›) h]
  case h_10 => split; exacts [w.back _ _ _ s ‹_› h, h]
  case h_11 => exact h

/-- Every command keeps what withstands what the blocks do. -/
theorem Withstands.exec (w : Withstands P) {c : Instr} {s t : State} (h : P s) (e : exec c s = .next t) : P t := by
  obtain ⟨g, hg, hc⟩ | ⟨f, hf, hc⟩ | hc := exec_eq c s
  · obtain rfl : (if listening s then Machine.answerWith _ g s else s) = t := Host.Outcome.next.inj (hc.symm.trans e)
    split
    · next hl => exact w.answerWith _ hg (powered_of_listening hl) h
    · exact h
  · obtain rfl : (if powered s then f s else s) = t := Host.Outcome.next.inj (hc.symm.trans e)
    split
    · next hp => exact w.event c f s hf hp h
    · exact h
  · obtain rfl : rowOf c s = t := Host.Outcome.next.inj (hc.symm.trans e)
    exact w.row c h

/-- So does every step, if the times that run down and the queue keep it too. -/
theorem Withstands.step (w : Withstands P) (ht : ∀ s, P s → P (tick s)) (hq : ∀ s q, P s → P (s.setPending q))
    {s t : State} (h : P s) (e : step s = .next t) : P t := by
  unfold Machine.step at e
  split at e
  · obtain rfl : tick s = t := Host.Outcome.next.inj e
    exact ht s h
  · exact w.exec (hq s _ h) e

end

/-! ### The first obligations -/

/-- Settles O1. -/
theorem stepTakesTheFrontCommand : Obligations.StepTakesTheFrontCommand := by
  intro c rest s hp
  unfold step
  rw [hp]

end Sys2Proof.Machine

/-! ## Sound changes

A change from one state to another is sound when it leaves the queue and keeps each property of Safety that held before it.
Sound changes compose, so one lemma for each operation is enough: the properties of every step (O58 to O60) and the queue
(O2) all come from it. The three views hold what the properties read; an operation that leaves a view keeps its property. -/

namespace Sys2Proof.Machine

/-! ### What the properties read -/

/-- The account of seats, hires, bills, summary slots and loops. -/
def AccountsHold (s : State) : Prop := SeatsHeld s ∧ SlotReserved s ∧ BillsBalance s ∧ LoopsInEmptyCab s

/-- The lists within their capacities, and one role on each view buffer. -/
def ListsHold (s : State) : Prop := OneEntryPerRole s ∧ ViewRolesHeld s ∧ QueuesWithinCapacity s

/-- Every kind that is raised is enabled (R186). -/
def RaisedEnabled (n : NoticeSet) : Prop := ∀ k, (n.get k).raised = true → (n.get k).enabled = true

/-- The part of `NoticesFollow` that holds in every supply state. -/
def Quiet (s : State) : Prop := 1 ≤ s.vbu.lagLimit ∧ RaisedEnabled s.clc.notices

/-- What `AccountsHold` reads. -/
structure AccountView where
  slots : Four (Option Hire)
  seats : Nat
  shift : ShiftState
  slot0 : SummarySlot
  slot1 : SummarySlot
  loop  : LoopSel
  phase : TestPhase

def State.account (s : State) : AccountView :=
  ⟨s.fen.slots, s.fen.seats, s.sau.shift, s.sau.slot0, s.sau.slot1, s.piu.loop, s.piu.phase⟩

/-- What `NoticesFollow` reads besides the raised and the enabled flags. -/
structure WatchView where
  lagLimit   : Nat
  lagCount   : Nat
  staleHolds : Bool
  waitHolds  : Bool
  alertHolds : Bool
  waiting    : Bool
  latch      : Bool
  supply     : Supply
  pins       : SupplyPins

def State.watch (s : State) : WatchView :=
  ⟨s.vbu.lagLimit, s.vbu.lagCount, s.clc.notices.displayStale.holds, s.clc.notices.authWaiting.holds,
    s.clc.notices.alert.holds, authWaiting s, s.sgu.latch, s.smr.supply, s.smr.pins⟩

/-- What `ListsHold` reads. -/
structure ListView where
  roles    : List Role
  write    : BufName
  ready    : BufName
  console  : BufName
  owed     : Nat
  queue    : Nat
  deferred : Nat
  begun    : Nat

def State.lists (s : State) : ListView :=
  ⟨s.sgu.list.map (·.role), s.vbu.write, s.vbu.ready, s.vbu.console, s.clc.owed.length, s.stu.queue.length,
    s.stu.deferred.length, s.piu.begun.length⟩

theorem AccountsHold.of_view {s t : State} (e : t.account = s.account) (h : AccountsHold s) : AccountsHold t := by
  simp only [State.account, AccountView.mk.injEq] at e
  obtain ⟨hslots, hseats, hshift, h0, h1, hloop, hphase⟩ := e
  simpa only [AccountsHold, SeatsHeld, SlotReserved, BillsBalance, LoopsInEmptyCab, cabEmpty, occupied, State.hire, hslots,
    hseats, hshift, h0, h1, hloop, hphase] using h

theorem NoticesFollow.of_view {s t : State} (e : t.watch = s.watch)
    (hr : RaisedEnabled s.clc.notices → RaisedEnabled t.clc.notices) (h : NoticesFollow s) : NoticesFollow t := by
  simp only [State.watch, WatchView.mk.injEq] at e
  obtain ⟨hlimit, hcount, hstale, hwait, halert, hwaiting, hlatch, hsupply, hpins⟩ := e
  obtain ⟨hl, hraised, hrun⟩ := h
  refine ⟨hlimit ▸ hl, hr hraised, fun hp => ?_⟩
  simp only [powered, hsupply] at hp
  simpa only [displayStale, hcount, hstale, hwait, halert, hwaiting, hlatch, hpins] using hrun hp

theorem ListsHold.of_view {s t : State} (e : t.lists = s.lists) (h : ListsHold s) : ListsHold t := by
  simp only [State.lists, ListView.mk.injEq] at e
  obtain ⟨hroles, hwrite, hready, hconsole, howed, hqueue, hdeferred, hbegun⟩ := e
  simpa only [ListsHold, OneEntryPerRole, ViewRolesHeld, QueuesWithinCapacity, hroles, hwrite, hready, hconsole, howed,
    hqueue, hdeferred, hbegun] using h

/-! ### Sound changes -/

/-- The change keeps the queue, and each property of Safety if it held. -/
structure Sound (s t : State) : Prop where
  pending : t.pending = s.pending
  account : AccountsHold s → AccountsHold t
  notices : NoticesFollow s → NoticesFollow t
  lists   : ListsHold s → ListsHold t
  quiet   : Quiet s → Quiet t := by exact id

@[refl] theorem Sound.refl (s : State) : Sound s s := ⟨rfl, id, id, id, id⟩

theorem Sound.trans {s t u : State} (a : Sound s t) (b : Sound t u) : Sound s u where
  pending := b.pending.trans a.pending
  account := b.account ∘ a.account
  notices := b.notices ∘ a.notices
  lists := b.lists ∘ a.lists
  quiet := b.quiet ∘ a.quiet

/-- The later change first, so that its operation says what the earlier one led to. -/
theorem Sound.comp {s t u : State} (b : Sound t u) (a : Sound s t) : Sound s u := a.trans b

/-- A change that leaves the three views and raises nothing that is not enabled. -/
theorem Sound.of_views {s t : State} (hp : t.pending = s.pending) (ha : t.account = s.account) (hw : t.watch = s.watch)
    (hl : t.lists = s.lists) (hr : RaisedEnabled s.clc.notices → RaisedEnabled t.clc.notices) : Sound s t :=
  ⟨hp, .of_view ha, .of_view hw hr, .of_view hl, fun ⟨h, hs⟩ => ⟨h.trans_eq (congrArg WatchView.lagLimit hw).symm, hr hs⟩⟩

/-- A choice between sound changes is sound. -/
theorem Sound.ite {s t u : State} {p : Prop} [Decidable p] (a : p → Sound s t) (b : ¬ p → Sound s u) :
    Sound s (if p then t else u) := by
  split
  · exact a ‹_›
  · exact b ‹_›

/-! ### Writes of one block -/

theorem sound_setMiu (s : State) (b : Miu) : Sound s (s.setMiu b) := .of_views rfl rfl rfl rfl id
theorem sound_setCku (s : State) (b : Cku) : Sound s (s.setCku b) := .of_views rfl rfl rfl rfl id
theorem sound_setTfs (s : State) (b : Tfs) : Sound s (s.setTfs b) := .of_views rfl rfl rfl rfl id
theorem sound_setTlc (s : State) (b : Tlc) : Sound s (s.setTlc b) := .of_views rfl rfl rfl rfl id
theorem sound_setRbc (s : State) (b : Rbc) : Sound s (s.setRbc b) := .of_views rfl rfl rfl rfl id
theorem sound_setTransit (s : State) (b : Transit) : Sound s (s.setTransit b) := .of_views rfl rfl rfl rfl id

theorem sound_setPiu {s : State} {p : Piu} (hl : p.loop = s.piu.loop) (hp : p.phase = s.piu.phase)
    (hb : p.begun.length = s.piu.begun.length) : Sound s (s.setPiu p) :=
  .of_views rfl (by simp [State.account, hl, hp]) rfl (by simp [State.lists, hb]) id

theorem sound_setSau {s : State} {b : Sau} (hs : b.shift = s.sau.shift) (h0 : b.slot0 = s.sau.slot0)
    (h1 : b.slot1 = s.sau.slot1) : Sound s (s.setSau b) :=
  .of_views rfl (by simp [State.account, hs, h0, h1]) rfl rfl id

theorem sound_setSmr {s : State} {b : Smr} (hs : b.supply = s.smr.supply) (hp : b.pins = s.smr.pins) :
    Sound s (s.setSmr b) :=
  .of_views rfl rfl (by simp [State.watch, authWaiting, hs, hp]) rfl id

/-- A write of the console link that leaves the notices and brings no owed answer beyond the fourth. -/
theorem sound_setClc {s : State} {c : Clc} (hn : c.notices = s.clc.notices)
    (ho : s.clc.owed.length ≤ 4 → c.owed.length ≤ 4) : Sound s (s.setClc c) where
  pending := rfl
  account := .of_view rfl
  notices := .of_view (by simp [State.watch, authWaiting, hn]) (by simp [hn])
  lists := fun ⟨hl, hv, hq, hrest⟩ => ⟨hl, hv, ho hq, hrest⟩
  quiet := fun ⟨hl, hr⟩ => ⟨hl, by rw [State.setClc_clc, hn]; exact hr⟩

/-- A write of the sign unit that leaves the latch. -/
theorem sound_setSgu {s : State} {g : Sgu} (hh : g.latch = s.sgu.latch)
    (hl : (s.sgu.list.map (·.role)).Nodup → (g.list.map (·.role)).Nodup) : Sound s (s.setSgu g) where
  pending := rfl
  account := .of_view rfl
  notices := .of_view (by simp [State.watch, authWaiting, hh]) id
  lists := fun ⟨h, hv, hq⟩ => ⟨hl h, hv, hq⟩

/-- A write of the settlement unit that leaves the waiting entries and the numbers of its lists. -/
theorem sound_setStu {s : State} {b : Stu} (hw : (b.queue.any fun e => e.state == .queued) = authWaiting s)
    (hq : b.queue.length = s.stu.queue.length) (hd : s.stu.deferred.length ≤ 32 → b.deferred.length ≤ 32) :
    Sound s (s.setStu b) where
  pending := rfl
  account := .of_view rfl
  notices := .of_view (by simp [State.watch, authWaiting] at hw ⊢; exact hw) id
  lists := fun ⟨hl, hv, ho, hqueue, hdef, hb⟩ => ⟨hl, hv, ho, by simpa [hq] using hqueue, hd hdef, hb⟩

/-- A write of the buffers and the sequence number. -/
theorem sound_setVbu {s : State} {v : Vbu} (hl : v.lagLimit = s.vbu.lagLimit) (hc : v.lagCount = s.vbu.lagCount)
    (hr : s.vbu.write ≠ s.vbu.ready ∧ s.vbu.ready ≠ s.vbu.console ∧ s.vbu.write ≠ s.vbu.console →
      v.write ≠ v.ready ∧ v.ready ≠ v.console ∧ v.write ≠ v.console) : Sound s (s.setVbu v) where
  pending := rfl
  account := .of_view rfl
  notices := .of_view (by simp [State.watch, authWaiting, hl, hc]) id
  lists := fun ⟨h, hv, hq⟩ => ⟨h, hr hv, hq⟩
  quiet := fun ⟨h, hs⟩ => ⟨by rw [State.setVbu_vbu, hl]; exact h, hs⟩

/-! ### Notices -/

theorem Notice.addReason_holds (n : Notice) (b : Nat) : (n.addReason b).holds = n.holds := by
  unfold addReason; split <;> rfl

theorem Notice.addReason_enabled (n : Notice) (b : Nat) : (n.addReason b).enabled = n.enabled := by
  unfold addReason; split <;> rfl

/-- A reason raises an enabled kind alone (R186). -/
theorem Notice.addReason_raised {n : Notice} {b : Nat} (h : n.raised = true → n.enabled = true)
    (hr : (n.addReason b).raised = true) : (n.addReason b).enabled = true := by
  unfold addReason at hr ⊢
  split at hr
  · simp [*]
  · simp_all

/-- A notice set stays truthful when one kind is replaced by a truthful record. -/
theorem RaisedEnabled.set {n : NoticeSet} {k : NoticeKind} {v : Notice} (h : RaisedEnabled n)
    (hv : v.raised = true → v.enabled = true) : RaisedEnabled (n.set k v) := by
  intro j
  by_cases e : j = k
  · rw [e, NoticeSet.get_set_same]
    exact hv
  · rw [NoticeSet.get_set_ne n v e]
    exact h j

/-- A replaced notice that holds as before leaves what the conditions hold. -/
theorem watch_setNotice {s : State} {k : NoticeKind} {v : Notice} (h : v.holds = (s.clc.notices.get k).holds) :
    (s.setNotice k v).watch = s.watch := by
  cases k <;> first | rfl | (simp only [State.watch, State.setNotice, State.setClc_clc, NoticeSet.set, h]; rfl)

theorem sound_raise (r : Reason) (s : State) : Sound s (raise r s) :=
  .of_views rfl rfl (watch_setNotice (Notice.addReason_holds ..)) rfl
    fun h => h.set (Notice.addReason_raised (h r.kind))

/-- A begun condition is raised only if its kind is enabled (R187). -/
theorem Notice.begins_raised {n : Notice} (h : n.raised = true → n.enabled = true) (hr : n.begins.raised = true) :
    n.begins.enabled = true := by
  simp only [begins, Bool.or_eq_true] at hr
  exact hr.elim h id

/-! ### Operations that write no list, no flag and no account -/

theorem sound_compose (s : State) : Sound s (compose s) := sound_setTransit ..
theorem sound_toFen (e : FenEvent) (s : State) : Sound s (toFen e s) := sound_setTransit ..
theorem sound_issueReport (r : SecondReport) (s : State) : Sound s (issueReport r s) := sound_setTransit ..
theorem sound_post (f : ShiftRecord → ShiftRecord) (s : State) : Sound s (post f s) :=
  .ite (fun _ => .refl s) fun _ => sound_setSau rfl rfl rfl
theorem sound_raiseSlip (b : Bool) (s : State) : Sound s (raiseSlip b s) :=
  .ite (fun _ => sound_raise ..) fun _ => .refl s
theorem sound_placeMessage (m : TermMsg) (s : State) : Sound s (placeMessage m s) := sound_setTlc ..
theorem sound_emptyMessage (s : State) : Sound s (emptyMessage s) := sound_setTlc ..
theorem sound_pinEnded (s : State) : Sound s (pinEnded s) := sound_setPiu rfl rfl rfl
theorem sound_pinBegun (s : State) : Sound s (pinBegun s) :=
  .of_views rfl rfl rfl rfl id

end Sys2Proof.Machine

/-! ## Sound changes of the sign unit and the roof bus controller (chapter 7) -/

namespace Sys2Proof.Machine

/-! ### The update list (R138) -/

/-- A list in which the entries of one role are changed in place has the same roles. -/
theorem roles_map_ite (l : List UpdateEntry) (r : Role) (f : UpdateEntry → UpdateEntry) (hf : ∀ e, (f e).role = e.role) :
    (l.map fun e => if e.role = r then f e else e).map (·.role) = l.map (·.role) := by
  rw [List.map_map]
  refine List.map_congr_left fun e _ => ?_
  simp only [Function.comp]
  split
  · exact hf e
  · rfl

/-- A content enqueued makes a new entry only for a role that has none (R138). -/
theorem enqueue_roles_nodup (r : Role) (c : Content) (p : Bool) {l : List UpdateEntry} (h : (l.map (·.role)).Nodup) :
    ((enqueue r c p l).map (·.role)).Nodup := by
  unfold enqueue
  split
  · rw [roles_map_ite l r (fun e => { e with content := c, tries := 0 }) fun _ => rfl]
    exact h
  · next hn =>
    have hr : r ∉ l.map (·.role) := by simpa using hn
    dsimp only
    split
    · exact List.nodup_cons.2 ⟨hr, h⟩
    · rw [List.map_append, List.map_singleton, ← List.concat_eq_append]
      exact h.concat hr

/-- Contents enqueued one after the other, some roles passed over. -/
theorem foldl_enqueue_roles_nodup (f : List UpdateEntry → Role → List UpdateEntry)
    (hf : ∀ l r, (l.map (·.role)).Nodup → ((f l r).map (·.role)).Nodup) (rs : List Role) {l : List UpdateEntry}
    (h : (l.map (·.role)).Nodup) : ((rs.foldl f l).map (·.role)).Nodup := by
  induction rs generalizing l with
  | nil => exact h
  | cons r rs ih => exact ih (hf l r h)

theorem dropEntry_roles_nodup (r : Role) {l : List UpdateEntry} (h : (l.map (·.role)).Nodup) :
    ((dropEntry l r).map (·.role)).Nodup :=
  h.sublist (List.filter_sublist.map _)

theorem role_notMem_dropEntry (r : Role) (l : List UpdateEntry) : r ∉ (dropEntry l r).map (·.role) := by
  simp [dropEntry]

theorem entryOf_role {l : List UpdateEntry} {r : Role} {e : UpdateEntry} (h : entryOf l r = some e) : e.role = r := by
  simpa using List.find?_some h

/-- An entry that goes to the end of the list for its next try stays the only one of its role (R142). -/
theorem requeue_roles_nodup {r : Role} {e : UpdateEntry} {l : List UpdateEntry} (he : e.role = r)
    (h : (l.map (·.role)).Nodup) : ((dropEntry l r ++ [e]).map (·.role)).Nodup := by
  rw [List.map_append, List.map_singleton, he, ← List.concat_eq_append]
  exact (dropEntry_roles_nodup r h).concat (role_notMem_dropEntry r l)

/-! ### The image -/

theorem sound_recomputeSign (s : State) : Sound s (recomputeSign s) := by
  refine sound_setSgu rfl (foldl_enqueue_roles_nodup _ (fun l r h => ?_) _)
  split
  · exact enqueue_roles_nodup _ _ _ h
  · exact h

theorem sound_handLabel (s : State) : Sound s (handLabel s) :=
  (sound_recomputeSign _).comp (sound_setSgu rfl id)

theorem sound_fullRefresh (s : State) : Sound s (fullRefresh s) := by
  refine sound_setSgu rfl (foldl_enqueue_roles_nodup _ (fun l r h => ?_) _)
  split
  · exact enqueue_roles_nodup _ _ _ h
  · exact h

theorem sound_evaluateSchedule (s : State) : Sound s (evaluateSchedule s) :=
  .ite (fun _ => .refl s) fun _ =>
    (sound_setTfs s _).trans ((sound_raise _ _).trans ((sound_toFen _ _).trans (sound_handLabel _)))

/-! ### Transfers -/

theorem sound_enterHeld (s : State) : Sound s (enterHeld s) :=
  (sound_setSgu (g := { s.sgu with list := [] }) rfl fun _ => List.nodup_nil).trans (sound_setRbc ..)

theorem sound_startTransfer (t : Transfer) (bytes : List Byte) (s : State) : Sound s (startTransfer t bytes s) :=
  sound_setRbc ..
theorem sound_clearFlight (busy : Bool) (s : State) : Sound s (clearFlight busy s) := sound_setRbc ..
theorem sound_endLossRun (s : State) : Sound s (endLossRun s) := sound_setRbc ..

theorem sound_beginLamp (s : State) : Sound s (beginLamp s) := by
  unfold beginLamp
  split
  · split
    · exact sound_startTransfer ..
    · exact sound_startTransfer ..
    · exact .refl s
  · exact .refl s

theorem sound_lampRestore (s : State) : Sound s (lampRestore s) := (sound_setRbc ..).trans (sound_beginLamp _)

theorem sound_endLampTest (s : State) : Sound s (endLampTest s) :=
  (sound_raise _ s).trans (.ite (fun _ => sound_enterHeld _) fun _ => (sound_setRbc ..).trans (sound_fullRefresh _))

theorem sound_nextLampPhase (s : State) : Sound s (nextLampPhase s) := by
  unfold nextLampPhase
  split
  · exact .ite (fun _ => sound_lampRestore s) fun _ => sound_setRbc ..
  · exact sound_endLampTest s
  · exact .refl s

theorem sound_afterContent (s : State) : Sound s (afterContent s) :=
  .ite (fun _ => sound_enterHeld s) fun _ =>
    .ite (fun _ => .ite (fun _ => sound_lampRestore s) fun _ => sound_beginLamp s) fun _ => .refl s

theorem sound_dropEntry (r : Role) (s : State) : Sound s (s.setSgu { s.sgu with list := dropEntry s.sgu.list r }) :=
  sound_setSgu rfl (dropEntry_roles_nodup r)

/-- A failed try of an entry: dropped, tried again later, or its module FAULTY (R142, R144). -/
theorem sound_failEntry (r : Role) (s : State) : Sound s (failEntry r s) := by
  unfold failEntry
  split
  · exact .refl s
  · next he =>
    have hr := entryOf_role he
    split
    · exact (sound_dropEntry r s).trans (sound_setRbc ..)
    · split
      · exact sound_setSgu rfl (requeue_roles_nodup (r := r) (by exact hr))
      · exact ((sound_dropEntry r s).trans (sound_setRbc ..)).trans (sound_raise _ _)

theorem sound_failLamp (s : State) : Sound s (failLamp s) :=
  .ite (fun _ => sound_setRbc ..) fun _ => sound_nextLampPhase s

theorem sound_failTransfer (busy : Bool) (s : State) : Sound s (failTransfer busy s) := by
  have ended : Sound s (endLossRun (clearFlight busy s)) := (sound_clearFlight busy s).trans (sound_endLossRun _)
  unfold failTransfer
  dsimp only
  split
  · exact ended.trans ((sound_failEntry _ _).trans (sound_afterContent _))
  · exact ended.trans (sound_failLamp _)
  · exact .refl s

/-- The list after a content transfer that succeeded: the entry dropped, or changed in place (R141). -/
theorem sound_succeedContent (r : Role) (sent : Content) (s : State) : Sound s (succeedContent r sent s) := by
  have ended : Sound s (endLossRun (clearFlight false s)) := (sound_clearFlight false s).trans (sound_endLossRun _)
  unfold succeedContent
  dsimp only
  refine (sound_afterContent _).comp (.comp (sound_setSgu rfl fun h => ?list) (.comp (sound_setRbc ..)
    (.comp (.ite (fun _ => sound_raise ..) fun _ => .refl _) ended)))
  replace h : (s.sgu.list.map (·.role)).Nodup := by
    have e : (if s.rbc.modules.get r = some .faulty then raise .moduleRecovered (endLossRun (clearFlight false s))
        else endLossRun (clearFlight false s)).sgu = s.sgu := by split <;> rfl
    exact e ▸ h
  rcases he : entryOf s.sgu.list r with _ | e
  · exact h
  · by_cases hc : e.content = sent
    · simp only [hc, if_true]
      exact dropEntry_roles_nodup r h
    · simp only [hc, if_false]
      rw [roles_map_ite s.sgu.list r (fun x => { x with tries := 0, probe := false, inFlight := false }) fun _ => rfl]
      exact h

/-! ### The rows of the bus -/

theorem sound_freeBus (cause : BusFreeCause) (s : State) : Sound s (freeBus cause s) := by
  unfold freeBus
  split
  · exact .refl s
  · split
    · exact .ite (fun _ => .refl s) fun _ => (sound_setRbc ..).trans (sound_beginLamp _)
    · exact (sound_setRbc ..).trans (sound_beginLamp _)

theorem sound_beginTransfer (s : State) : Sound s (beginTransfer s) := by
  unfold beginTransfer
  split
  · split
    · exact .refl s
    · next e _ =>
      refine (sound_startTransfer ..).comp (sound_setSgu rfl fun h => ?_)
      rw [roles_map_ite s.sgu.list e.role (fun x => { x with inFlight := true }) fun _ => rfl]
      exact h
  · exact .refl s

theorem sound_transferSuccess (s : State) : Sound s (transferSuccess s) := by
  unfold transferSuccess
  split
  · exact .ite (fun _ => sound_succeedContent ..) fun _ => .refl s
  · exact .refl s

theorem sound_transferFailed (s : State) : Sound s (transferFailed s) :=
  .ite (fun _ => sound_failTransfer ..) fun _ => .refl s

theorem sound_endHoldOff (r : Role) (s : State) :
    Sound s (s.setSgu { s.sgu with list := s.sgu.list.map fun e => if e.role = r then { e with holdOff := none } else e }) :=
  sound_setSgu rfl fun h => by
    rw [roles_map_ite s.sgu.list r (fun x => { x with holdOff := none }) fun _ => rfl]
    exact h

theorem sound_expireProbe (r : Role) (s : State) : Sound s (expireProbe r s) :=
  .ite (fun _ => .ite (fun _ => sound_setRbc ..) fun _ =>
    (sound_setRbc s _).trans (sound_setSgu rfl (enqueue_roles_nodup r _ true))) fun _ => .refl s

theorem sound_loseArbitration (s : State) : Sound s (loseArbitration s) := by
  refine .ite (fun _ => ?_) fun _ => .refl s
  have told : Sound s _ := (sound_setRbc s { s.rbc with
    arbLoss := satAdd 255 s.rbc.arbLoss 1, arbWait := true, busBusy := true }).trans
      (.ite (p := satAdd 255 s.rbc.arbLoss 1 = 8) (fun _ => sound_raise .arbLimit _) fun _ => .refl _)
  exact .ite (fun _ => told.trans (sound_enterHeld _)) fun _ => told

theorem sound_restartTransfer (s : State) : Sound s (restartTransfer s) := by
  unfold restartTransfer
  split
  · split
    · exact sound_startTransfer ..
    · exact sound_startTransfer ..
    · exact sound_startTransfer ..
    · exact .refl s
  · exact .refl s

theorem sound_stallClock (s : State) : Sound s (stallClock s) :=
  .ite (fun _ => (sound_setRbc ..).trans ((sound_raise _ _).trans (sound_failTransfer ..))) fun _ => .refl s

theorem sound_recoverBus (s : State) : Sound s (recoverBus s) :=
  .ite (fun _ => (sound_setRbc ..).trans (sound_beginLamp _)) fun _ => .refl s

theorem sound_lampTransferEnd (s : State) : Sound s (lampTransferEnd s) := by
  have next : Sound s (nextLampPhase (endLossRun (clearFlight false s))) :=
    ((sound_clearFlight false s).trans (sound_endLossRun _)).trans (sound_nextLampPhase _)
  unfold lampTransferEnd
  split
  · exact .ite (fun _ => next) fun _ => .refl s
  · exact .ite (fun _ => next) fun _ => .refl s
  · exact .refl s

/-! ### The alarm (R135, R136, R150) -/

/-- The latch rises and ALERT begins in one change (R135). -/
theorem sound_latchRises (s : State) : Sound s (condBegin .alert (s.setSgu { s.sgu with latch := true })) where
  pending := rfl
  account := .of_view rfl
  notices := fun ⟨hl, hr, hrun⟩ => ⟨hl, RaisedEnabled.set hr (Notice.begins_raised (hr .alert)), fun hp =>
    have ⟨hpins, hstale, hwait, _⟩ := hrun hp
    ⟨hpins, hstale, hwait, rfl⟩⟩
  lists := .of_view rfl
  quiet := fun ⟨hl, hr⟩ => ⟨hl, RaisedEnabled.set hr (Notice.begins_raised (hr .alert))⟩

/-- The latch is cleared and ALERT ends in one change (R136). -/
theorem sound_latchFalls (s : State) : Sound s (condEnd .alert (s.setSgu { s.sgu with latch := false })) where
  pending := rfl
  account := .of_view rfl
  notices := fun ⟨hl, hr, hrun⟩ => ⟨hl, RaisedEnabled.set hr (hr .alert), fun hp =>
    have ⟨hpins, hstale, hwait, _⟩ := hrun hp
    ⟨hpins, hstale, hwait, rfl⟩⟩
  lists := .of_view rfl
  quiet := fun ⟨hl, hr⟩ => ⟨hl, RaisedEnabled.set hr (hr .alert)⟩

theorem sound_cutLampTest (s : State) : Sound s (cutLampTest s) := by
  unfold cutLampTest
  split
  · split
    · exact .ite (fun _ => (sound_setRbc ..).trans (sound_lampRestore _)) fun _ => sound_setRbc ..
    · exact (sound_setRbc ..).trans (sound_lampRestore _)
    · exact .refl s
  · exact .refl s

theorem sound_riseLatch (s : State) : Sound s (riseLatch s) :=
  .ite (fun _ => .refl s) fun _ =>
    (sound_latchRises s).trans ((sound_recomputeSign _).trans (sound_cutLampTest _))

theorem sound_followAlarm (input : AlarmInput) (s : State) : Sound s (followAlarm input s) := sound_setRbc ..

theorem sound_takeAlarm (input : AlarmInput) (s : State) : Sound s (takeAlarm input s) := by
  unfold takeAlarm
  split
  · exact sound_followAlarm ..
  · exact sound_followAlarm ..
  · exact (sound_followAlarm ..).trans (sound_riseLatch _)

end Sys2Proof.Machine

/-! ## Sound changes of the fare engine and the fare view (chapters 3 and 4) -/

namespace Sys2Proof.Machine

/-! ### The hire table -/

theorem occupied_eq_false_iff {s : State} : occupied s = false ↔ ∀ k, s.fen.slots.get k = none := by
  simp only [occupied, Four.toList, List.any_cons, List.any_nil, Bool.or_false, Bool.or_eq_false_iff, Option.isSome_eq_false_iff,
    Option.isNone_iff_eq_none]
  exact ⟨fun ⟨h0, h1, h2, h3⟩ k => by cases k <;> assumption, fun h => ⟨h .s0, h .s1, h .s2, h .s3⟩⟩

theorem cabEmpty_iff_slots {s : State} : cabEmpty s = true ↔ ∀ k, s.fen.slots.get k = none := by
  rw [cabEmpty_eq_true_iff, occupied_eq_false_iff]

/-- A slot whose hire becomes the one given: not a new hire, its seats as they were, and its bill balanced if it was. -/
def SlotKept (a b : Option Hire) : Prop :=
  ∀ h', b = some h' → ∃ h, a = some h ∧ h'.party = h.party ∧ (h.balances → h'.balances)

theorem SlotKept.refl (a : Option Hire) : SlotKept a a := fun h e => ⟨h, e, rfl, id⟩

theorem SlotKept.none (a : Option Hire) : SlotKept a none := nofun

theorem SlotKept.some {h h' : Hire} (hp : h'.party = h.party) (hb : h.balances → h'.balances) :
    SlotKept (.some h) (.some h') := by
  rintro _ ⟨⟩
  exact ⟨h, rfl, hp, hb⟩

theorem SlotKept.map {f : Hire → Hire} (hp : ∀ h, (f h).party = h.party) (hb : ∀ h, h.balances → (f h).balances)
    (a : Option Hire) : SlotKept a (a.map f) := by
  cases a with
  | none => exact .none _
  | some h => exact .some (hp h) (hb h)

theorem SlotKept.party_le {a b : Option Hire} (h : SlotKept a b) :
    (b.map (·.party)).getD 0 ≤ (a.map (·.party)).getD 0 := by
  cases b with
  | none => exact Nat.zero_le _
  | some h' =>
    obtain ⟨g, rfl, hp, -⟩ := h h' rfl
    exact hp.le

theorem seatsTaken_le {f g : Four (Option Hire)} (h : ∀ k, SlotKept (f.get k) (g.get k)) : seatsTaken g ≤ seatsTaken f := by
  simp only [seatsTaken, Four.toList, List.map_cons, List.map_nil, List.sum_cons, List.sum_nil]
  have h0 := (h .s0).party_le
  have h1 := (h .s1).party_le
  have h2 := (h .s2).party_le
  have h3 := (h .s3).party_le
  simp only [Four.get] at h0 h1 h2 h3
  omega

/-- A write of the fare engine that begins no hire and keeps the seats offered. -/
theorem sound_setFen {s : State} {f : Fen} (hs : f.seats = s.fen.seats)
    (hk : ∀ k, SlotKept (s.fen.slots.get k) (f.slots.get k)) : Sound s (s.setFen f) where
  pending := rfl
  account := by
    have empty : cabEmpty s = true → cabEmpty (s.setFen f) = true := fun h => cabEmpty_iff_slots.2 fun k => by
      rcases e : (s.setFen f).fen.slots.get k with _ | h'
      · rfl
      · obtain ⟨h₀, e₀, -⟩ := hk k h' e
        rw [cabEmpty_iff_slots.1 h k] at e₀
        exact nomatch e₀
    rintro ⟨⟨hseats, hshift⟩, hslot, hbills, hloops⟩
    refine ⟨⟨?_, fun h => empty (hshift h)⟩, hslot, fun k h' e => ?_, fun h => empty (hloops h)⟩
    · rw [State.setFen_fen, hs]
      exact (seatsTaken_le hk).trans hseats
    · obtain ⟨h, e₀, -, hb⟩ := hk k h' e
      exact hb (hbills k h e₀)
  notices := .of_view rfl id
  lists := .of_view rfl

/-- A hire replaced by one of the same party whose bill balances if the old one did. -/
theorem sound_setHire {s : State} {k : Slot} {h h' : Hire} (he : s.hire k = some h) (hp : h'.party = h.party)
    (hb : h.balances → h'.balances) : Sound s (s.setHire k (some h')) := by
  refine sound_setFen rfl fun j => ?_
  rw [Four.get_set]
  split
  · next e =>
    rw [e, show s.fen.slots.get k = some h from he]
    exact .some hp hb
  · exact .refl _

/-- The same after another sound change. -/
theorem Sound.thenHire {s t : State} {k : Slot} {h h' : Hire} (a : Sound s t) (he : t.hire k = some h)
    (hp : h'.party = h.party) (hb : h.balances → h'.balances) : Sound s (t.setHire k (some h')) :=
  a.trans (sound_setHire he hp hb)

/-- A slot emptied. -/
theorem sound_setHire_none (k : Slot) (s : State) : Sound s (s.setHire k none) := by
  refine sound_setFen rfl fun j => ?_
  rw [Four.get_set]
  split
  · exact .none _
  · exact .refl _

theorem sound_mapSlots {s : State} {f : Hire → Hire} (hp : ∀ h, (f h).party = h.party)
    (hb : ∀ h, h.balances → (f h).balances) :
    Sound s (s.setFen { s.fen with slots := s.fen.slots.map fun o => o.map f }) := by
  refine sound_setFen rfl fun k => ?_
  rw [Four.get_map]
  exact .map hp hb _

/-! ### Bills -/

/-- A hire that is not stopped has no bill to balance. -/
theorem Hire.balances_of_not_stopped {h : Hire} (hs : h.state = .running ∨ h.state = .suspended) : h.balances := by
  intro hd
  rcases hs with hs | hs <;> simp [hs] at hd

/-- The bill of a hire in the middle of its payment. -/
theorem Hire.balances.bill {h : Hire} (hb : h.balances) (hs : h.state = .frozen ∨ h.state = .due ∨ h.state = .paying) :
    ∃ b, h.bill = some b ∧ b.dueTotal = h.fare + b.topUp + h.extrasTotal
      ∧ b.remaining + (h.tenders.map (·.amount)).sum = b.dueTotal := hb hs

theorem Hire.stopped_balances (set : TariffSet) (h : Hire) : (h.stopped set).balances :=
  fun _ => ⟨_, rfl, rfl, by simp [Hire.stopped]⟩

/-- A tender within the remaining moves its amount from the remaining to the tenders (R56). -/
theorem Hire.tendered_balances {h : Hire} {t : Tender} (ht : t.amount ≤ h.remaining) (hb : h.balances) :
    (h.tendered t).balances := by
  intro hs
  obtain ⟨b, e, hdue, hsum⟩ := hb.bill hs
  refine ⟨{ b with remaining := b.remaining - t.amount }, by simp [Hire.tendered, e], hdue, ?_⟩
  simp only [Hire.remaining, e, Option.map_some, Option.getD_some] at ht
  simp only [Hire.tendered, List.map_append, List.sum_append, List.map_singleton, List.sum_singleton]
  omega

/-- A hire billed again balances if its tenders are within the new due total (R51, R52). -/
theorem Hire.rebilled_balances {h : Hire} {b : Bill} (e : h.bill = some b)
    (hsum : (h.tenders.map (·.amount)).sum ≤ h.fare + b.topUp + h.extrasTotal) : h.rebilled.balances := by
  unfold Hire.rebilled
  rw [e]
  exact fun _ => ⟨_, rfl, rfl, Nat.sub_add_cancel hsum⟩

theorem Hire.afterExtras_party (h : Hire) : h.afterExtras.party = h.party := by
  unfold Hire.afterExtras Hire.rebilled
  split
  · rfl
  · split <;> rfl

/-! ### The fare view -/

/-- What a state must show of its conditions (NoticesFollow), on the view of it. -/
def WatchView.follows (w : WatchView) : Prop :=
  1 ≤ w.lagLimit ∧ ((w.supply == .up || w.supply == .starting) = true →
    w.pins = ⟨true, true⟩ ∧ w.staleHolds = (w.lagCount == 0) ∧ w.waitHolds = w.waiting ∧ w.alertHolds = w.latch)

theorem noticesFollow_iff {s : State} : NoticesFollow s ↔ RaisedEnabled s.clc.notices ∧ s.watch.follows :=
  ⟨fun ⟨hl, hr, hrun⟩ => ⟨hr, hl, hrun⟩, fun ⟨hr, hl, hrun⟩ => ⟨hl, hr, hrun⟩⟩

theorem watch_raise (r : Reason) (s : State) : (raise r s).watch = s.watch := watch_setNotice (Notice.addReason_holds ..)

theorem watch_post (f : ShiftRecord → ShiftRecord) (s : State) : (post f s).watch = s.watch := by
  unfold post; split <;> rfl

theorem raisedEnabled_raise (r : Reason) {s : State} (h : RaisedEnabled s.clc.notices) :
    RaisedEnabled (raise r s).clc.notices := RaisedEnabled.set h (Notice.addReason_raised (h r.kind))

theorem raisedEnabled_condBegin (k : NoticeKind) {s : State} (h : RaisedEnabled s.clc.notices) :
    RaisedEnabled (condBegin k s).clc.notices := RaisedEnabled.set h (Notice.begins_raised (h k))

theorem raisedEnabled_condEnd (k : NoticeKind) {s : State} (h : RaisedEnabled s.clc.notices) :
    RaisedEnabled (condEnd k s).clc.notices := RaisedEnabled.set h (h k)

/-- A new lag count with the notice of an onset when it falls to 0 (R74). -/
theorem WatchView.follows_lag {w : WatchView} (h : w.follows) {n : Nat} (hn : n ≤ w.lagCount) :
    (if 0 < w.lagCount ∧ n = 0 then { w with lagCount := n, staleHolds := true } else { w with lagCount := n }).follows := by
  obtain ⟨hl, hrun⟩ := h
  split
  · next hz => exact ⟨hl, fun hp => ⟨(hrun hp).1, by simp [hz.2], (hrun hp).2.2⟩⟩
  · next hz =>
    refine ⟨hl, fun hp => ⟨(hrun hp).1, ?_, (hrun hp).2.2⟩⟩
    rw [(hrun hp).2.1, Bool.eq_iff_iff, beq_iff_eq, beq_iff_eq]
    show w.lagCount = 0 ↔ n = 0
    omega

theorem watch_condBegin_displayStale (s : State) :
    (condBegin .displayStale s).watch = { s.watch with staleHolds := true } := rfl

/-- The lag count reloaded, the condition ended if it held (R71). -/
theorem sound_reloadLag (s : State) : Sound s (reloadLag s) where
  pending := by simp
  account := .of_view (by simp [State.account])
  lists := .of_view (by unfold reloadLag; dsimp only; split <;> rfl)
  quiet := by
    rintro ⟨hl, hr⟩
    unfold reloadLag
    dsimp only
    split
    · exact ⟨hl, raisedEnabled_condEnd _ hr⟩
    · exact ⟨hl, hr⟩
  notices := by
    rintro ⟨hl, hr, hrun⟩
    unfold reloadLag
    dsimp only
    split
    · refine ⟨hl, raisedEnabled_condEnd _ hr, fun hp => ⟨(hrun hp).1, ?_, (hrun hp).2.2⟩⟩
      exact (beq_eq_false_iff_ne.2 (Nat.ne_of_gt hl)).symm
    · next hd =>
      refine ⟨hl, hr, fun hp => ⟨(hrun hp).1, ?_, (hrun hp).2.2⟩⟩
      refine (hrun hp).2.1.trans ((Bool.eq_false_iff.2 hd).trans ?_)
      exact (beq_eq_false_iff_ne.2 (Nat.ne_of_gt hl)).symm

/-! ### Accrual -/

/-- The parts of a hire that no report changes. -/
theorem chargeStep_keeps (n : Nat) (a : Accrual) :
    (chargeStep n a).hire.state = a.hire.state ∧ (chargeStep n a).hire.party = a.hire.party := by
  unfold chargeStep; split <;> exact ⟨rfl, rfl⟩

theorem switchTariff_keeps (a : Accrual) :
    (switchTariff a).hire.state = a.hire.state ∧ (switchTariff a).hire.party = a.hire.party := by
  unfold switchTariff; split <;> exact ⟨rfl, rfl⟩

theorem nextStep_keeps {t : Tariff} {h g : Hire} (e : nextStep t h = some g) : g.state = h.state ∧ g.party = h.party := by
  unfold nextStep at e
  split at e
  · cases e; exact ⟨rfl, rfl⟩
  · split at e
    · cases e; exact ⟨rfl, rfl⟩
    · exact nomatch e

/-- Steps that fall keep the state and the party of the hire, and never raise the lag count. -/
theorem fallSteps_keeps (set : TariffSet) (shared : Bool) (fuel : Nat) (a : Accrual) :
    (fallSteps set shared fuel a).hire.state = a.hire.state ∧ (fallSteps set shared fuel a).hire.party = a.hire.party ∧
      (fallSteps set shared fuel a).lag ≤ a.lag := by
  induction fuel generalizing a with
  | zero => exact ⟨rfl, rfl, le_rfl⟩
  | succ fuel ih =>
    unfold fallSteps
    split
    · exact ⟨rfl, rfl, le_rfl⟩
    · next t _ =>
      split
      · exact ⟨rfl, rfl, le_rfl⟩
      · next g hg =>
        obtain ⟨hs, hp, hl⟩ := ih (switchTariff (chargeStep (stepCost shared t) { a with hire := g }))
        have c := chargeStep_keeps (stepCost shared t) { a with hire := g }
        have w := switchTariff_keeps (chargeStep (stepCost shared t) { a with hire := g })
        have n := nextStep_keeps hg
        refine ⟨hs.trans (w.1.trans (c.1.trans n.1)), hp.trans (w.2.trans (c.2.trans n.2)), hl.trans ?_⟩
        rw [switchTariff_lag]
        exact chargeStep_lag_le ..

theorem credit_keeps (t : Tariff) (metres : Nat) (h : Hire) :
    (credit t metres h).state = h.state ∧ (credit t metres h).party = h.party := by
  unfold credit; split <;> exact ⟨rfl, rfl⟩

theorem accrue_keeps (set : TariffSet) (shared : Bool) (metres lag : Nat) (h : Hire) :
    (accrue set shared metres lag h).hire.state = h.state ∧ (accrue set shared metres lag h).hire.party = h.party ∧
      (accrue set shared metres lag h).lag ≤ lag := by
  unfold accrue
  dsimp only
  split
  · exact ⟨rfl, rfl, le_rfl⟩
  · next t _ =>
    obtain ⟨hs, hp, hl⟩ := fallSteps_keeps set shared ((credit t metres h).distSince + 2)
      ⟨credit t metres h, lag, false, false, false⟩
    have c := credit_keeps t metres h
    exact ⟨hs.trans c.1, hp.trans c.2, hl⟩

/-- What an accrual leaves of the conditions (R74). -/
theorem watch_takeAccrual (k : Slot) (a : Accrual) (s : State) :
    (takeAccrual k a s).watch = if 0 < s.watch.lagCount ∧ a.lag = 0 then { s.watch with lagCount := a.lag, staleHolds := true }
      else { s.watch with lagCount := a.lag } := by
  have kept : ∀ b c : Bool, (if c = true then raise (.tariffSwitched k)
      (if b = true then raise (.stepsForgone k) ((s.setHire k (some a.hire)).setVbu { s.vbu with lagCount := a.lag })
        else (s.setHire k (some a.hire)).setVbu { s.vbu with lagCount := a.lag }) else
      (if b = true then raise (.stepsForgone k) ((s.setHire k (some a.hire)).setVbu { s.vbu with lagCount := a.lag })
        else (s.setHire k (some a.hire)).setVbu { s.vbu with lagCount := a.lag })).watch
      = { s.watch with lagCount := a.lag } := by
    intro b c
    cases b <;> cases c <;> simp only [Bool.false_eq_true, if_false, if_true, watch_raise] <;> rfl
  unfold takeAccrual
  dsimp only
  rw [show s.watch.lagCount = s.vbu.lagCount from rfl]
  split
  · rw [staleOnset, watch_condBegin_displayStale, watch_post, kept]
  · exact kept ..

theorem raisedEnabled_takeAccrual (k : Slot) (a : Accrual) {s : State} (h : RaisedEnabled s.clc.notices) :
    RaisedEnabled (takeAccrual k a s).clc.notices := by
  have onset : ∀ t : State, RaisedEnabled t.clc.notices → RaisedEnabled (staleOnset t).clc.notices := fun t ht =>
    raisedEnabled_condBegin _ (by rw [post_clc]; exact ht)
  have raised : ∀ (p : Bool) (r : Reason) (t : State), RaisedEnabled t.clc.notices →
      RaisedEnabled (if p = true then raise r t else t).clc.notices := fun p r t ht => by
    split
    · exact raisedEnabled_raise r ht
    · exact ht
  unfold takeAccrual
  dsimp only
  split
  · exact onset _ (raised _ _ _ (raised _ _ _ h))
  · exact raised _ _ _ (raised _ _ _ h)

/-- An accrual is, but for the count and the notices, the new hire of its slot. -/
theorem takeAccrual_account (k : Slot) (a : Accrual) (s : State) :
    (takeAccrual k a s).account = (s.setHire k (some a.hire)).account := by
  unfold takeAccrual staleOnset post
  dsimp only
  split_ifs <;> rfl

theorem takeAccrual_lists (k : Slot) (a : Accrual) (s : State) : (takeAccrual k a s).lists = s.lists := by
  unfold takeAccrual staleOnset post
  dsimp only
  split_ifs <;> rfl

theorem sound_takeAccrual {k : Slot} {a : Accrual} {s : State} {h : Hire} (he : s.hire k = some h)
    (hp : a.hire.party = h.party) (hr : a.hire.state = .running) (hl : a.lag ≤ s.vbu.lagCount) :
    Sound s (takeAccrual k a s) where
  pending := by simp
  account h' := .of_view (takeAccrual_account ..)
    ((sound_setHire he hp fun _ => Hire.balances_of_not_stopped (.inl hr)).account h')
  notices hn := by
    obtain ⟨hr, hw⟩ := noticesFollow_iff.1 hn
    refine noticesFollow_iff.2 ⟨raisedEnabled_takeAccrual _ _ hr, ?_⟩
    rw [watch_takeAccrual]
    exact WatchView.follows_lag hw hl
  lists := .of_view (takeAccrual_lists ..)
  quiet := fun ⟨hl, hr⟩ => by
    have limit : (takeAccrual k a s).vbu.lagLimit = s.vbu.lagLimit := by
      have e := congrArg WatchView.lagLimit (watch_takeAccrual k a s)
      split at e <;> exact e
    exact ⟨limit ▸ hl, raisedEnabled_takeAccrual _ _ hr⟩

theorem sound_accrueSlot (shared : Bool) (metres : Nat) (acc : State × Bool) (k : Slot) :
    Sound acc.1 (accrueSlot shared metres acc k).1 := by
  unfold accrueSlot
  split
  · next h he =>
    split
    · next hr =>
      obtain ⟨hs, hp, hl⟩ := accrue_keeps (activeSet acc.1) shared metres acc.1.vbu.lagCount h
      exact sound_takeAccrual he hp (hs.trans hr) hl
    · exact .refl _
  · exact .refl _

/-- Sound changes one after the other over a list. -/
theorem sound_foldl {α β : Type} {p : α → State} {f : α → β → α} (hf : ∀ a b, Sound (p a) (p (f a b))) (l : List β) (a : α) :
    Sound (p a) (p (l.foldl f a)) := by
  induction l generalizing a with
  | nil => exact .refl _
  | cons b l ih => exact (hf a b).trans (ih _)

theorem sound_applyReport (r : SecondReport) (s : State) : Sound s (applyReport r s) := by
  refine .ite (fun _ => ?_) fun _ => .refl s
  have acc := sound_foldl (p := Prod.fst) (sound_accrueSlot (2 ≤ runningCount s.fen.slots) r.metres) Slot.all (s, false)
  exact .ite (fun _ => acc.trans (sound_compose _)) fun _ => acc

theorem sound_postReport (r : SecondReport) (s : State) : Sound s (postReport r s) := sound_post ..

/-! ### Band changes, suspension, confirmations -/

theorem sound_applyBandChange (n : Nat) (s : State) : Sound s (applyBandChange n s) :=
  sound_mapSlots (f := fun h => if h.followsCalendar then h.follow n else h)
    (fun h => by split <;> rfl) fun h hb => by split <;> exact hb

theorem sound_suspendRunning (s : State) : Sound s (suspendRunning s) :=
  sound_mapSlots (f := fun h => if h.state = .running then { h with state := .suspended } else h)
    (fun h => by split <;> rfl) fun h hb => by
      split
      · exact Hire.balances_of_not_stopped (.inr rfl)
      · exact hb

theorem sound_sealSuspension (s : State) : Sound s (sealSuspension s) :=
  .ite (fun _ => .refl s) fun _ => (sound_suspendRunning s).trans
    ((sound_foldl (p := id) (fun t k => sound_raise (.suspended k) t) _ _).trans (sound_compose _))

theorem Hire.qualifies_frozen {h : Hire} {e : ViewEntry} (hq : h.qualifies e = true) : h.state = .frozen := by
  simp only [Hire.qualifies, Bool.and_eq_true, beq_iff_eq] at hq
  exact hq.1.1.1

theorem sound_confirmSlot (entries : Four (Option ViewEntry)) (acc : State × Bool) (k : Slot) :
    Sound acc.1 (confirmSlot entries acc k).1 := by
  unfold confirmSlot
  split
  · next e h _ he =>
    split
    · dsimp only
      split
      · next hq =>
        exact (sound_raise _ _).comp (sound_setHire he rfl fun hb _ => hb.bill (.inl (Hire.qualifies_frozen hq)))
      · exact sound_setHire he rfl fun hb => hb
    · exact .refl _
  · exact .refl _

theorem sound_applyConfirmation (entries : Four (Option ViewEntry)) (s : State) : Sound s (applyConfirmation entries s) := by
  have acc := sound_foldl (p := Prod.fst) (sound_confirmSlot entries) Slot.all (s, false)
  exact .ite (fun _ => acc.trans (sound_compose _)) fun _ => acc

theorem sound_takeFenEvent {α : Type} (f : FenEvent → Option α) {g : α → State → State} (hg : ∀ a s, Sound s (g a s))
    (s : State) : Sound s (takeFenEvent f g s) := by
  unfold takeFenEvent
  split
  · exact (sound_setTransit s _).trans (hg ..)
  · exact .refl s

/-! ### Payments -/

theorem sound_paymentFailure (k : Slot) (s : State) : Sound s (paymentFailure k s) := by
  unfold paymentFailure
  split
  · next h he =>
    split
    · next hp =>
      exact (sound_compose _).comp ((sound_raise _ _).comp (sound_setHire he rfl fun hb _ => hb.bill (.inr (.inr hp))))
    · exact .refl s
  · exact .refl s

theorem sound_closeHire (k : Slot) (paid : Bool) (writtenOff : Nat) (h : Hire) (s : State) :
    Sound s (closeHire k paid writtenOff h s) :=
  (sound_post _ s).trans ((sound_raise _ _).trans ((sound_setHire_none k _).trans (sound_recomputeSign _)))

theorem sound_recordTender (k : Slot) (t : Tender) (s : State) : Sound s (recordTender k t s) := by
  unfold recordTender
  split
  · next h he =>
    split
    · next ht =>
      simp only [Hire.takesTender, Bool.and_eq_true, decide_eq_true_eq] at ht
      refine (sound_compose _).comp (.ite (fun _ => sound_closeHire ..) fun _ => ?_)
      exact sound_setHire he rfl (Hire.tendered_balances ht.1)
    · exact .refl s
  · exact .refl s

end Sys2Proof.Machine

/-! ## Sound changes of settlement and of the terminal link (chapter 5) -/

namespace Sys2Proof.Machine

/-! ### The authorization queue -/

/-- The queue replaced by one within its capacity; AUTH_WAITING is reported when it begins or ends (R94). -/
theorem sound_setQueue {q : List AuthEntry} {s : State} (hq : s.stu.queue.length ≤ 8 → q.length ≤ 8) :
    Sound s (setQueue q s) where
  pending := by simp
  account := .of_view (by simp [State.account])
  lists := by
    rintro ⟨hroles, hviews, howed, hqueue, hdeferred, hbegun⟩
    have howed' : (setQueue q s).clc.owed = s.clc.owed := by
      unfold setQueue
      dsimp only
      split_ifs <;> rfl
    exact ⟨by simpa [OneEntryPerRole] using hroles, by simpa [ViewRolesHeld] using hviews, by rw [howed']; exact howed,
      by simpa using hq hqueue, by simpa using hdeferred, by simpa using hbegun⟩
  quiet := by
    rintro ⟨hl, hr⟩
    unfold setQueue
    dsimp only
    split_ifs
    · exact ⟨hl, raisedEnabled_condBegin _ hr⟩
    · exact ⟨hl, raisedEnabled_condEnd _ hr⟩
    · exact ⟨hl, hr⟩
  notices := by
    rintro ⟨hl, hr, hrun⟩
    unfold setQueue
    dsimp only
    split_ifs with hbegin hend
    · simp only [Bool.and_eq_true] at hbegin
      exact ⟨hl, raisedEnabled_condBegin _ hr, fun hp => ⟨(hrun hp).1, (hrun hp).2.1, hbegin.2.symm, (hrun hp).2.2.2⟩⟩
    · simp only [Bool.and_eq_true, Bool.not_eq_true'] at hend
      refine ⟨hl, raisedEnabled_condEnd _ hr, fun hp => ⟨(hrun hp).1, (hrun hp).2.1, ?_, (hrun hp).2.2.2⟩⟩
      have same : authWaiting (condEnd .authWaiting (s.setStu { s.stu with queue := q }))
          = authWaiting (s.setStu { s.stu with queue := q }) := rfl
      rw [same, hend.2]
      rfl
    · refine ⟨hl, hr, fun hp => ⟨(hrun hp).1, (hrun hp).2.1, (hrun hp).2.2.1.trans ?_, (hrun hp).2.2.2⟩⟩
      cases ha : authWaiting s <;> cases hb : authWaiting (s.setStu { s.stu with queue := q }) <;> simp_all

theorem markEntry_length (n : Nat) (st : AuthState) (q : List AuthEntry) : (markEntry n st q).length = q.length :=
  List.length_map ..

theorem sound_markEntry (n : Nat) (st : AuthState) (s : State) : Sound s (setQueue (markEntry n st s.stu.queue) s) :=
  sound_setQueue fun h => (markEntry_length ..).trans_le h

theorem sound_removeEntry (n : Nat) (s : State) : Sound s (removeEntry n s) :=
  sound_setQueue (List.length_filter_le _ _).trans

theorem sound_withdrawLive (k : Slot) (s : State) : Sound s (setQueue (withdrawLive k s.stu.queue) s) :=
  sound_setQueue fun h => (List.length_map ..).trans_le h

/-! ### The terminal session -/

theorem sound_leavePin (was : Option Session) (s : State) : Sound s (leavePin was s) :=
  .ite (fun _ => sound_pinEnded s) fun _ => .refl s

theorem sound_endSession (s : State) : Sound s (endSession s) := (sound_setTlc ..).trans (sound_leavePin ..)

theorem sound_toResult (m : TermMsg) (v : Session) (s : State) : Sound s (toResult m v s) :=
  (sound_setTlc ..).trans ((sound_placeMessage ..).trans (sound_leavePin ..))

theorem sound_giveResult (c : ResultCode) (approval : Option (List Byte)) (e : AuthEntry) (s : State) :
    Sound s (giveResult c approval e s) := by
  unfold giveResult
  split
  · exact sound_toResult ..
  · exact .ite (fun _ => sound_raise ..) fun _ => .refl s

theorem sound_loseTerminal (s : State) : Sound s (loseTerminal s) := by
  have lost : Sound s (raise .terminalLost (s.setTlc { s.tlc with up := false })) := (sound_setTlc ..).trans (sound_raise ..)
  have closed := lost.trans ((sound_emptyMessage _).trans (sound_endSession _))
  unfold loseTerminal
  dsimp only
  split
  · exact lost
  · split
    · exact closed.trans (sound_paymentFailure ..)
    · exact closed
    · split
      · exact closed.trans (sound_raise ..)
      · exact closed.trans (sound_raise ..)
      · exact closed

theorem sound_missReply (s : State) : Sound s (missReply s) :=
  .ite (fun _ => (sound_setTlc ..).trans (sound_loseTerminal _)) fun _ => sound_setTlc ..

theorem sound_deliver (carried : Bool) (s : State) : Sound s (deliver carried s) := by
  unfold deliver
  split
  · exact .ite (fun _ => .ite (fun _ => (sound_emptyMessage s).trans (sound_endSession _)) fun _ => sound_emptyMessage s)
      fun _ => .refl s
  · exact .refl s

/-- The state value noted, and a PIN that begins or ends with it (R82, R86). -/
theorem sound_takeTermState (v : TermState) (s : State) : Sound s (takeTermState v s) := by
  have noted : Sound s (s.setTlc { s.tlc with lastState := some v }) := sound_setTlc ..
  unfold takeTermState
  dsimp only
  split
  · exact noted
  · split
    · exact .ite (fun _ => (sound_pinBegun _).comp ((sound_setTlc ..).comp noted)) fun _ => noted
    · exact .ite (fun _ => noted) fun _ => (sound_pinEnded _).comp ((sound_setTlc ..).comp noted)
    · exact noted

theorem sound_adviseTender (c : ResultCode) (s : State) : Sound s (adviseTender c s) :=
  (sound_placeMessage ..).trans (sound_raise ..)

/-- A new entry is made only below the capacity (R88, R93). -/
theorem sound_createEntry (r : TenderRecord) (v : Session) {s : State} (hl : s.stu.queue.length < 8) :
    Sound s (createEntry r v s) := by
  refine (sound_setTlc ..).comp (.comp (by exact sound_setStu rfl rfl id) (sound_setQueue fun _ => ?_))
  have kept : (match v.current with
      | some c => if v.phase = some PayPhase.awaiting then markEntry c .superseded s.stu.queue else s.stu.queue
      | none => s.stu.queue).length = s.stu.queue.length := by
    split
    · split
      · exact markEntry_length ..
      · rfl
    · rfl
  rw [List.length_append]
  exact (congrArg (· + 1) kept).trans_le hl

theorem sound_takeTender (r : TenderRecord) (s : State) : Sound s (takeTender r s) := by
  unfold takeTender
  split
  · exact sound_raise ..
  · exact .ite (fun _ => sound_raise ..) fun _ => .ite (fun _ => .refl s) fun _ =>
      .ite (fun _ => sound_adviseTender ..) fun _ =>
        .ite (fun _ => sound_adviseTender ..) fun hl => sound_createEntry r _ (Nat.lt_of_not_le hl)

theorem sound_takeCancelled (s : State) : Sound s (takeCancelled s) := by
  unfold takeCancelled
  split
  · exact .refl s
  · refine .ite (fun _ => .refl s) fun _ => (sound_raise ..).comp ((sound_paymentFailure ..).comp
      ((sound_emptyMessage _).comp ((sound_endSession _).comp ?_)))
    split
    · exact sound_markEntry ..
    · exact .refl s

theorem sound_takeReply (r : StateReply) (s : State) : Sound s (takeReply r s) := by
  have linked : Sound s (if s.tlc.up then s.setTlc { s.tlc with unanswered := 0, exchange := none }
      else raise .terminalBack ((s.setTlc { s.tlc with unanswered := 0, exchange := none }).setTlc
        { (s.setTlc { s.tlc with unanswered := 0, exchange := none }).tlc with up := true })) :=
    .ite (fun _ => sound_setTlc ..) fun _ => (sound_raise ..).comp ((sound_setTlc ..).comp (sound_setTlc ..))
  have told := linked.trans ((sound_deliver (s.tlc.exchange.any (·.carriesSlot)) _).trans (sound_takeTermState r.state _))
  obtain ⟨st, cancelled, _ | tender⟩ := r
  · exact .ite (fun _ => told.trans (sound_takeCancelled _)) fun _ => told
  · have tendered := told.trans (sound_takeTender tender _)
    exact .ite (fun _ => tendered.trans (sound_takeCancelled _)) fun _ => tendered

theorem sound_expireEntry (id : Nat) (s : State) : Sound s (expireEntry id s) := by
  unfold expireEntry
  split
  · exact .refl s
  · exact .ite (fun _ => (sound_removeEntry ..).trans ((sound_paymentFailure ..).trans (sound_giveResult ..)))
      fun _ => sound_removeEntry ..

theorem sound_beginExchange (s : State) : Sound s (beginExchange s) := .ite (fun _ => .refl s) fun _ => sound_setTlc ..

/-! ### Requests

What an owner returns is sound, and a request that is not taken leaves the state as it was (R184). -/

/-- What the owning block of a request may return. -/
structure Owned (s : State) (r : Served) : Prop where
  sound   : Sound s r.state
  refused : r.status ≠ .ok → r.status ≠ .accepted → r.state = s

theorem owned_refuse (st : Status) (s : State) : Owned s (refuse st s) := ⟨.refl s, fun _ _ => rfl⟩

theorem owned_served {s t : State} (p : List Byte) (h : Sound s t) : Owned s (served p t) := ⟨h, fun h => absurd rfl h⟩

theorem owned_begun {s t : State} (h : Sound s t) : Owned s (begun t) := ⟨h, fun _ h => absurd rfl h⟩

/-- A reading request. -/
theorem owned_read (p : List Byte) (s : State) : Owned s (served p s) := owned_served p (.refl s)

theorem Owned.ite {s : State} {r q : Served} {p : Prop} [Decidable p] (a : p → Owned s r) (b : ¬ p → Owned s q) :
    Owned s (if p then r else q) := by
  split
  · exact a ‹_›
  · exact b ‹_›

/-- A request on a hire: refused, or served for the hire of its slot in one of the states that take it (R33). -/
theorem owned_onHire {s : State} {slot : Nat} {ok : Bool} {states : List HireState} {f : Slot → Hire → Served}
    (hf : ∀ k h, s.hire k = some h → h.state ∈ states → Owned s (f k h)) : Owned s (onHire slot ok states f s) := by
  unfold onHire
  split
  · exact owned_refuse ..
  · refine .ite (fun _ => ?_) fun _ => owned_refuse ..
    split
    · exact owned_refuse ..
    · next h he => exact .ite (fun hs => hf _ h he (List.contains_iff_mem.1 hs)) fun _ => owned_refuse ..

theorem owned_onVerdict {s : State} {id : Nat} {ok : Bool} {f : AuthEntry → Served} (hf : ∀ e, Owned s (f e)) :
    Owned s (onVerdict id ok f s) := by
  unfold onVerdict
  refine .ite (fun _ => owned_refuse ..) fun _ => ?_
  split
  · exact owned_refuse ..
  · next e _ =>
    split
    · exact owned_refuse ..
    · exact owned_refuse ..
    · exact owned_refuse ..
    · exact hf e

theorem owned_presentCard (slot : Nat) (s : State) : Owned s (servePresentCard slot s) := by
  refine owned_onHire fun k h he hs => .ite (fun _ => owned_refuse ..) fun _ => .ite (fun _ => owned_refuse ..) fun _ => ?_
  have hd : h.state = .due := by simpa using hs
  exact owned_served _ ((sound_compose _).comp (.thenHire ((sound_placeMessage ..).comp (sound_setTlc ..)) he rfl
    fun hb _ => hb.bill (.inr (.inl hd))))

theorem owned_cancelPayment (slot : Nat) (s : State) : Owned s (serveCancelPayment slot s) := by
  refine owned_onHire fun k _ _ _ => ?_
  split
  · exact .ite (fun _ => owned_refuse ..) fun _ =>
      owned_served _ ((sound_withdrawLive k s).trans ((sound_toResult ..).trans (sound_paymentFailure ..)))
  · exact owned_served _ ((sound_withdrawLive k s).trans (sound_paymentFailure ..))

theorem owned_nextAuth (s : State) : Owned s (serveNextAuth s) := by
  unfold serveNextAuth
  split
  · exact owned_refuse ..
  · exact owned_served _ (sound_markEntry ..)

theorem owned_authRead (index : Nat) (s : State) : Owned s (serveAuthRead index s) := by
  refine .ite (fun _ => owned_refuse ..) fun _ => ?_
  split
  · exact owned_refuse ..
  · exact owned_read ..

theorem owned_verdictApprove (id : Nat) (approval : Option (List Byte)) (s : State) :
    Owned s (serveVerdictApprove id approval s) :=
  owned_onVerdict fun _ => owned_served _
    ((sound_recordTender ..).trans ((sound_removeEntry ..).trans (sound_giveResult ..)))

theorem owned_verdictDecline (id : Nat) (approval : Option (List Byte)) (s : State) :
    Owned s (serveVerdictDecline id approval s) :=
  owned_onVerdict fun _ => owned_served _
    ((sound_removeEntry ..).trans ((sound_paymentFailure ..).trans (sound_giveResult ..)))

/-- An entry is deferred only while the deferred list has room (R106). -/
theorem deferred_room_of_deferRefusal {e : AuthEntry} {s : State} (h : deferRefusal e s = none) :
    s.stu.deferred.length < 32 := by
  unfold deferRefusal at h
  split_ifs at h
  omega

theorem owned_verdictDefer (id : Nat) (approval : Option (List Byte)) (s : State) :
    Owned s (serveVerdictDefer id approval s) := by
  refine owned_onVerdict fun e => ?_
  dsimp only
  split
  · exact owned_refuse ..
  · next hr =>
    refine owned_served _ ((sound_giveResult ..).comp ((sound_removeEntry ..).comp ((sound_recordTender ..).comp
      ((sound_post ..).comp (sound_setStu rfl rfl fun _ => ?_)))))
    rw [List.length_append]
    exact deferred_room_of_deferRefusal hr

theorem owned_cashTender (slot amount : Nat) (s : State) : Owned s (serveCashTender slot amount s) :=
  owned_onHire fun _ _ _ _ => .ite (fun _ => owned_served _ (sound_recordTender ..)) fun _ =>
    .ite (fun _ => owned_served _ (sound_recordTender ..)) fun _ => owned_refuse ..

theorem owned_accountTender (slot : Nat) (account : List Byte) (amount : Nat) (s : State) :
    Owned s (serveAccountTender slot account amount s) :=
  owned_onHire fun _ _ _ _ => .ite (fun _ => owned_refuse ..) fun _ => owned_served _ (sound_recordTender ..)

theorem owned_deferredOutcome (id outcome : Nat) (s : State) : Owned s (serveDeferredOutcome id outcome s) := by
  unfold serveDeferredOutcome
  split
  · exact owned_refuse ..
  · refine .ite (fun _ => owned_refuse ..) fun _ => .ite (fun _ => owned_refuse ..) fun _ => ?_
    split
    · exact owned_refuse ..
    · exact owned_served _ ((sound_post ..).comp (sound_setStu rfl rfl (List.length_filter_le _ _).trans))

theorem owned_deferredRead (index : Nat) (s : State) : Owned s (serveDeferredRead index s) := by
  refine .ite (fun _ => owned_refuse ..) fun _ => ?_
  split
  · exact owned_refuse ..
  · exact owned_read ..

end Sys2Proof.Machine

/-! ## Sound changes of metering, the clock, tariffs, notices and the fare view, and what their owners return -/

namespace Sys2Proof.Machine

/-! ### The seal and the clock (chapter 1) -/

theorem sound_openSeal (s : State) : Sound s (openSeal s) := by
  have opened : Sound s _ := (sound_setMiu s { s.miu with
    sealOpen := true, sealTaken := true, sealCount := satAdd max16 s.miu.sealCount 1 }).trans (sound_raise .sealOpened _)
  exact .ite (fun _ => opened.trans ((sound_post _ _).trans (sound_sealSuspension _))) fun _ => opened

theorem sound_abortRun (s : State) : Sound s (abortRun s) :=
  .ite (fun _ => (sound_setMiu ..).trans (sound_raise ..)) fun _ => .refl s

theorem sound_closeSeal (s : State) : Sound s (closeSeal s) :=
  (sound_setMiu ..).trans ((sound_raise ..).trans (sound_abortRun _))

theorem sound_findClosed (s : State) : Sound s (findClosed s) := (sound_setMiu ..).trans (sound_abortRun _)

theorem sound_closeSecond (ended : CalTime) (s : State) : Sound s (closeSecond ended s) := by
  have issued := (sound_setMiu s { s.miu with secondCount := 0 }).trans
    (sound_issueReport ⟨ended, s.miu.secondCount, secondMark s.miu.secondCount⟩ _)
  exact .ite (fun _ => issued.trans (sound_raise ..)) fun _ => issued

theorem sound_ageDeferred (now : CalTime) (s : State) : Sound s (ageDeferred now s) :=
  .ite (fun _ => (sound_raise ..).comp (sound_setStu rfl rfl fun h => (List.length_map ..).trans_le h)) fun _ => .refl s

theorem sound_countBreakMinute (s : State) : Sound s (countBreakMinute s) :=
  .ite (fun _ => sound_post ..) fun _ => .refl s

theorem sound_minuteEvent (s : State) : Sound s (minuteEvent s) :=
  (sound_ageDeferred ..).trans ((sound_countBreakMinute _).trans (sound_setTransit ..))

theorem sound_advanceClock (s : State) : Sound s (advanceClock s) := sound_setCku ..

theorem sound_wholeSecond (s : State) : Sound s (wholeSecond s) := by
  have closed := (sound_advanceClock s).trans (sound_closeSecond s.cku.now _)
  exact .ite (fun _ => .ite (fun _ => closed.trans (sound_minuteEvent _)) fun _ => closed) fun _ => sound_advanceClock s

theorem owned_getTime (s : State) : Owned s (serveGetTime s) := owned_read ..

theorem owned_setTime (t : CalTime) (s : State) : Owned s (serveSetTime t s) :=
  .ite (fun _ => owned_refuse ..) fun _ => .ite (fun _ => owned_refuse ..) fun _ =>
    owned_served _ ((sound_setCku ..).trans ((sound_setTfs ..).trans (sound_evaluateSchedule _)))

theorem owned_calBegin (s : State) : Owned s (serveCalBegin s) := by
  unfold serveCalBegin
  split
  · exact owned_refuse ..
  · exact owned_served _ (sound_setMiu ..)

theorem owned_calEnd (length : Nat) (s : State) : Owned s (serveCalEnd length s) :=
  .ite (fun _ => owned_refuse ..) fun _ => .ite (fun _ => owned_refuse ..) fun _ =>
    .ite (fun _ => owned_served _ ((sound_setMiu ..).trans (sound_raise ..))) fun _ => owned_refuse ..

theorem owned_calAbort (s : State) : Owned s (serveCalAbort s) :=
  .ite (fun _ => owned_served _ (sound_setMiu ..)) fun _ => owned_refuse ..

theorem owned_setK (k : Nat) (s : State) : Owned s (serveSetK k s) := by
  unfold serveSetK
  split
  · exact owned_refuse ..
  · exact .ite (fun _ => owned_served _ (sound_setMiu ..)) fun _ => owned_refuse ..

/-! ### Tariffs (chapter 2) -/

theorem sound_setStaged (t : TariffSet) (s : State) : Sound s (s.setStaged t) := sound_setTfs ..

theorem sound_takeMinuteEvent (s : State) : Sound s (takeMinuteEvent s) := by
  unfold takeMinuteEvent
  split
  · exact .refl s
  · exact (sound_setTransit ..).trans ((sound_setTfs ..).trans (sound_evaluateSchedule _))

theorem owned_stageTariffSet (t : Tariff) (s : State) : Owned s (serveStageTariffSet t s) :=
  .ite (fun _ => owned_served _ (sound_setStaged ..)) fun _ => owned_refuse ..

theorem owned_stageTariffRemove (n : Nat) (s : State) : Owned s (serveStageTariffRemove n s) :=
  .ite (fun _ => owned_refuse ..) fun _ => .ite (fun _ => owned_refuse ..) fun _ => owned_served _ (sound_setStaged ..)

theorem owned_stageBandAdd (b : Band) (s : State) : Owned s (serveStageBandAdd b s) :=
  .ite (fun _ => owned_refuse ..) fun _ => .ite (fun _ => owned_served _ (sound_setStaged ..)) fun _ =>
    .ite (fun _ => owned_refuse ..) fun _ => .ite (fun _ => owned_refuse ..) fun _ => owned_served _ (sound_setStaged ..)

theorem owned_stageBandRemove (days : Byte) (start : Nat) (s : State) : Owned s (serveStageBandRemove days start s) :=
  .ite (fun _ => owned_refuse ..) fun _ => .ite (fun _ => owned_refuse ..) fun _ => owned_served _ (sound_setStaged ..)

theorem owned_stageHolidayAdd (d : Date) (s : State) : Owned s (serveStageHolidayAdd d s) :=
  .ite (fun _ => owned_refuse ..) fun _ => .ite (fun _ => owned_read ..) fun _ =>
    .ite (fun _ => owned_refuse ..) fun _ => owned_served _ (sound_setStaged ..)

theorem owned_stageHolidayRemove (d : Date) (s : State) : Owned s (serveStageHolidayRemove d s) :=
  .ite (fun _ => owned_refuse ..) fun _ =>
    .ite (fun _ => owned_served _ (sound_setStaged ..)) fun _ => owned_refuse ..

theorem owned_stageExtraSet (code kind amount maxCount : Nat) (label : List Byte) (s : State) :
    Owned s (serveStageExtraSet code kind amount maxCount label s) := by
  unfold serveStageExtraSet
  split
  · exact owned_refuse ..
  · exact .ite (fun _ => owned_served _ (sound_setStaged ..)) fun _ => owned_refuse ..

theorem owned_stageExtraRemove (code : Nat) (s : State) : Owned s (serveStageExtraRemove code s) :=
  .ite (fun _ => owned_refuse ..) fun _ => .ite (fun _ => owned_refuse ..) fun _ => owned_served _ (sound_setStaged ..)

theorem owned_clearStagedEmpty (s : State) : Owned s (serveClearStagedEmpty s) := owned_served _ (sound_setStaged ..)

theorem owned_clearStagedCopyActive (s : State) : Owned s (serveClearStagedCopyActive s) :=
  .ite (fun _ => owned_served _ (sound_setStaged ..)) fun _ => owned_refuse ..

theorem owned_commitTariffs (s : State) : Owned s (serveCommitTariffs s) := by
  refine .ite (fun _ => owned_refuse ..) fun _ => .ite (fun _ => owned_refuse ..) fun _ =>
    .ite (fun _ => owned_refuse ..) fun _ => ?_
  split
  · exact ⟨.refl s, fun _ _ => rfl⟩
  · exact owned_served _ ((sound_setTfs ..).trans ((sound_evaluateSchedule _).trans (sound_handLabel _)))

theorem owned_serveRead (selector : Nat) (ok : Bool) (record : TariffSet → Option (List Byte)) (s : State) :
    Owned s (serveRead selector ok record s) := by
  unfold serveRead
  split
  · exact owned_refuse ..
  · refine .ite (fun _ => ?_) fun _ => owned_refuse ..
    split
    · exact owned_read ..
    · exact owned_refuse ..

theorem owned_readSet (selector : Nat) (s : State) : Owned s (serveReadSet selector s) := by
  unfold serveReadSet
  split
  · exact owned_read ..
  · exact owned_read ..
  · exact owned_refuse ..

/-! ### Notices and identification (chapter 9) -/

theorem sound_dropDetail (s : State) : Sound s (dropDetail s) := sound_setClc rfl id

/-- A kind handed out is no longer raised and holds as before (R189). -/
theorem sound_handOut (k : NoticeKind) (s : State) : Sound s (handOut k s) := by
  have cleared : Sound s (s.setNotice k (s.clc.notices.get k).cleared) :=
    .of_views rfl rfl (watch_setNotice rfl) rfl fun h => h.set fun hr => nomatch hr
  exact .ite (fun _ => cleared.trans (sound_dropDetail _)) fun _ => cleared

theorem owned_getNotice (s : State) : Owned s (serveGetNotice s) := by
  unfold serveGetNotice
  split
  · exact owned_read ..
  · exact owned_served _ (sound_handOut ..)

theorem Notice.enable_holds (condition on : Bool) (n : Notice) : (n.enable condition on).holds = n.holds := by
  rw [Notice.enable_eq]
  split_ifs <;> rfl

theorem Notice.enable_raised {condition on : Bool} {n : Notice} (h : n.raised = true → n.enabled = true)
    (hr : (n.enable condition on).raised = true) : (n.enable condition on).enabled = true := by
  rw [Notice.enable_eq] at hr ⊢
  by_cases hoff : n.enabled = true ∧ on = false
  · rw [if_pos hoff] at hr
    exact nomatch hr
  · rw [if_neg hoff] at hr ⊢
    by_cases hon : n.enabled = false ∧ on = true
    · rw [if_pos hon]
    · rw [if_neg hon] at hr ⊢
      exact h hr

/-- A new enable set keeps the conditions and what is raised is enabled (R190). -/
theorem sound_enableAll (enables : BitVec 16) (s : State) :
    Sound s (s.setClc { s.clc with notices := enableAll enables s.clc.notices }) := by
  have holds : ∀ k, ((enableAll enables s.clc.notices).get k).holds = (s.clc.notices.get k).holds := fun k => by
    rw [enableAll_get, Notice.enable_holds]
  refine .of_views rfl rfl ?_ rfl fun h k hr => ?_
  · have hstale := holds .displayStale
    have hwait := holds .authWaiting
    have halert := holds .alert
    simp only [NoticeSet.get] at hstale hwait halert
    simp only [State.watch, State.setClc_clc, State.setClc_vbu, State.setClc_smr, State.setClc_sgu, hstale, hwait, halert]
    rfl
  · rw [State.setClc_clc, enableAll_get] at hr ⊢
    exact Notice.enable_raised (h k) hr

theorem owned_setNoticeEnables (enables : BitVec 16) (s : State) : Owned s (serveSetNoticeEnables enables s) :=
  .ite (fun _ => owned_refuse ..) fun _ => owned_served _
    (.ite (fun _ => sound_enableAll ..) fun _ => (sound_enableAll enables s).trans (sound_dropDetail _))

theorem owned_identify (s : State) : Owned s (serveIdentify s) := owned_read ..
theorem owned_status (s : State) : Owned s (serveStatus s) := owned_read ..

theorem owned_restart (s : State) : Owned s (serveRestart s) :=
  .ite (fun _ => owned_refuse ..) fun _ => owned_served _ (sound_setSmr rfl rfl)

/-! ### The fare view (chapter 4) -/

/-- READY and WRITE exchange their buffers (R67). -/
theorem sound_vbuCompose (now : CalTime) (entries : Four (Option ViewEntry)) (s : State) :
    Sound s (s.setVbu (s.vbu.compose now entries)) := by
  obtain ⟨hl, hc, hw, hr, ho⟩ : (s.vbu.compose now entries).lagLimit = s.vbu.lagLimit ∧
      (s.vbu.compose now entries).lagCount = s.vbu.lagCount ∧ (s.vbu.compose now entries).write = s.vbu.ready ∧
      (s.vbu.compose now entries).ready = s.vbu.write ∧ (s.vbu.compose now entries).console = s.vbu.console := by
    unfold Vbu.compose Vbu.put
    dsimp only
    split <;> exact ⟨rfl, rfl, rfl, rfl, rfl⟩
  refine sound_setVbu hl hc ?_
  rw [hw, hr, ho]
  exact fun ⟨hwr, hrc, hwc⟩ => ⟨hwr.symm, hwc, hrc⟩

theorem sound_takeComposition (s : State) : Sound s (takeComposition s) := by
  unfold takeComposition
  split
  · exact .refl s
  · exact (sound_setTransit s _).trans (sound_vbuCompose ..)

/-- READY and CONSOLE exchange their buffers (R68). -/
theorem sound_vbuTake (s : State) : Sound s (s.setVbu s.vbu.take) := by
  unfold Vbu.take
  split
  · obtain ⟨hl, hc, hw⟩ : (s.vbu.put s.vbu.console none).lagLimit = s.vbu.lagLimit ∧
        (s.vbu.put s.vbu.console none).lagCount = s.vbu.lagCount ∧ (s.vbu.put s.vbu.console none).write = s.vbu.write := by
      unfold Vbu.put
      split <;> exact ⟨rfl, rfl, rfl⟩
    refine sound_setVbu hl hc fun ⟨hwr, hrc, hwc⟩ => ?_
    dsimp only
    rw [hw]
    exact ⟨hwc, hrc.symm, hwr⟩
  · exact sound_setVbu rfl rfl id

theorem owned_takeView (s : State) : Owned s (serveTakeView s) := owned_served _ (sound_vbuTake s)

theorem owned_shown (sequence : Nat) (s : State) : Owned s (serveShown sequence s) := by
  unfold serveShown
  split
  · exact owned_refuse ..
  · exact .ite (fun _ => owned_served _ ((sound_reloadLag s).trans (sound_toFen ..))) fun _ => owned_refuse ..

end Sys2Proof.Machine

/-! ## Sound changes of hires, shifts, the sign's requests and the intercom, and what their owners return -/

namespace Sys2Proof.Machine

/-! ### The intercom (chapter 8) -/

/-- A write of the intercom that starts a loop or a link test in an empty cab only. -/
theorem sound_setPiu_of {s : State} {p : Piu}
    (hl : p.loop ≠ .none ∨ p.phase ≠ .none → cabEmpty s = true ∨ s.piu.loop ≠ .none ∨ s.piu.phase ≠ .none)
    (hb : s.piu.begun.length ≤ 66 → p.begun.length ≤ 66) : Sound s (s.setPiu p) where
  pending := rfl
  account := fun ⟨hseats, hslot, hbills, hloops⟩ => ⟨hseats, hslot, hbills, fun h => (hl h).elim id hloops⟩
  notices := .of_view rfl id
  lists := fun ⟨hr, hv, ho, hq, hd, hbegun⟩ => ⟨hr, hv, ho, hq, hd, hb hbegun⟩

/-- A write that starts no loop and no link test. -/
theorem sound_setPiu_quiet {s : State} {p : Piu} (hl : p.loop = .none ∨ p.loop = s.piu.loop)
    (hp : p.phase = .none ∨ p.phase = s.piu.phase) (hb : p.begun = s.piu.begun) : Sound s (s.setPiu p) := by
  refine sound_setPiu_of (fun h => .inr ?_) (by rw [hb]; exact id)
  rcases h with h | h
  · exact .inl (hl.elim (fun e => absurd e h) fun e => e ▸ h)
  · exact .inr (hp.elim (fun e => absurd e h) fun e => e ▸ h)

theorem sound_chimeOver (s : State) : Sound s (chimeOver s) := .ite (fun _ => sound_setPiu rfl rfl rfl) fun _ => .refl s

theorem sound_completeFront (received : Block) (s : State) : Sound s (completeFront received s) :=
  (sound_chimeOver s).trans (.ite
    (fun _ => (sound_raiseSlip ..).comp ((sound_raiseSlip ..).comp (by exact sound_setPiu rfl rfl rfl)))
    fun _ => (sound_raiseSlip ..).comp (by exact sound_setPiu rfl rfl rfl))

theorem sound_frontCompletion (received : Block) (s : State) : Sound s (frontCompletion received s) :=
  .ite (fun _ => sound_setPiu rfl rfl rfl) fun _ => sound_completeFront ..

theorem sound_expirePinHold (s : State) : Sound s (expirePinHold s) := by
  unfold expirePinHold
  split
  · exact sound_setPiu rfl rfl rfl
  · exact .refl s

theorem sound_linkRear (s : State) : Sound s (linkRear s) :=
  .ite (fun _ => .refl s) fun _ => (sound_raise ..).comp (by exact sound_setPiu rfl rfl rfl)

theorem sound_arriveRear (block : Block) (s : State) : Sound s (arriveRear block s) :=
  .ite (fun _ => .refl s) fun _ => (sound_raiseSlip ..).comp (by exact sound_setPiu rfl rfl rfl)

theorem sound_takeCall (pressed : Bool) (s : State) : Sound s (takeCall pressed s) := by
  have kept : Sound s (s.setPiu { s.piu with lastCall := pressed }) := sound_setPiu rfl rfl rfl
  exact .ite (fun _ => (sound_raise ..).comp (.ite (fun _ => kept.trans (sound_setPiu rfl rfl rfl)) fun _ => kept))
    fun _ => kept

/-- A remote loop begins in an empty cab only (R168). -/
theorem sound_takeLoopCode (code : Byte) (s : State) : Sound s (takeLoopCode code s) := by
  unfold takeLoopCode
  extract_lets up down p run
  have ran : Sound s run := sound_setPiu rfl rfl rfl
  refine .ite (fun hup => ran.trans ?_) fun _ => .ite (fun _ => ran.trans ?_) fun _ => ran
  · refine (sound_raise ..).comp (sound_setPiu_of (fun _ => .inl ?_) id)
    have counted : (s.piu.autoLoop && countsLoopUp s && code == 1) = true := by
      by_contra hn
      have : up = 0 := if_neg hn
      omega
    simp only [countsLoopUp, Bool.and_eq_true] at counted
    exact counted.1.2.1.1.2
  · exact (sound_raise ..).comp (sound_setPiu_quiet (.inl rfl) (.inr rfl) rfl)

theorem sound_takeChecked (block : Block) (s : State) : Sound s (takeChecked block s) := by
  unfold takeChecked
  split
  · split
    · exact .ite (fun _ => (sound_raise ..).comp (sound_setPiu rfl rfl rfl)) fun _ => sound_setPiu rfl rfl rfl
    · exact .ite (fun _ => sound_setPiu rfl rfl rfl) fun _ =>
        .ite (fun _ => (sound_raise ..).comp (sound_setPiu rfl rfl rfl)) fun _ => sound_setPiu rfl rfl rfl
  · exact .refl s

/-- A reply goes on with a link test and starts none (R163, R169). -/
theorem sound_rearReply (received : Block) (s : State) : Sound s (rearReply received s) := by
  unfold rearReply
  refine .ite (fun _ => sound_setPiu rfl rfl rfl) fun _ => (sound_raiseSlip ..).comp ?_
  split
  · next n hp => exact sound_setPiu_of (fun _ => .inr (.inr (by simp [hp]))) id
  · next hp => exact sound_setPiu rfl rfl rfl
  · next hp => exact sound_setPiu rfl rfl rfl

theorem sound_noteStatus (n : Nat) (s : State) : Sound s (s.setPiu { s.piu with lastStatus := n }) :=
  sound_setPiu rfl rfl rfl

theorem sound_takeValidFrame (control : Byte) (block : Block) (s : State) : Sound s (takeValidFrame control block s) :=
  (sound_rearReply ..).comp ((sound_takeChecked ..).comp ((sound_takeLoopCode ..).comp ((sound_noteStatus ..).comp
    ((sound_takeCall ..).comp ((sound_arriveRear ..).comp (sound_linkRear s))))))

theorem sound_takeDamagedFrame (block : Block) (s : State) : Sound s (takeDamagedFrame block s) := by
  have counted := (show Sound s (s.setPiu { s.piu with damaged := satAdd max16 s.piu.damaged 1 }) from
    sound_setPiu rfl rfl rfl).trans (sound_takeChecked block _)
  exact .ite (fun _ => counted.trans (sound_rearReply ..)) fun _ => counted

theorem sound_takeRearFrame (control : Byte) (block : Block) (check : Byte) (s : State) :
    Sound s (takeRearFrame control block check s) :=
  .ite (fun _ => sound_takeValidFrame ..) fun _ => sound_takeDamagedFrame ..

theorem sound_hearRearByte (s : State) (b : Byte) : Sound s (hearRearByte s b) := by
  by_cases hd : s.piu.begun = [] ∧ b ≠ rearSync
  · rw [hearRearByte, if_pos hd]
  · cases hf : rearFrameOf (s.piu.begun ++ [b]) with
    | some f =>
      rw [hearRearByte, if_neg hd, hf]
      exact (sound_takeRearFrame ..).comp (sound_setPiu_of .inr fun _ => by simp)
    | none =>
      have short := hearRearByte_begun s b
      rw [hearRearByte, if_neg hd, hf] at short ⊢
      exact sound_setPiu_of .inr short

theorem sound_hearRear (bytes : List Byte) (s : State) : Sound s (hearRear bytes s) :=
  (sound_foldl (p := id) sound_hearRearByte bytes (beforeRow s)).comp (sound_setPiu rfl rfl rfl)

theorem sound_rearFrameIf (change : Piu → Piu → Bool) (bytes : List Byte) (s : State) :
    Sound s (rearFrameIf change bytes s) := .ite (fun _ => sound_hearRear ..) fun _ => .refl s

theorem sound_loseRear (s : State) : Sound s (loseRear s) := by
  unfold loseRear
  extract_lets q p lost r unlooped u
  have hlost : Sound s lost := (sound_raise ..).comp (by exact sound_setPiu rfl rfl rfl)
  have hunlooped : Sound s unlooped :=
    .ite (fun _ => hlost.trans ((sound_raise ..).comp (sound_setPiu_quiet (.inl rfl) (.inr rfl) rfl))) fun _ => hlost
  split
  · exact .ite (fun _ => hunlooped.trans ((sound_raise ..).comp (sound_setPiu rfl rfl rfl))) fun _ => hunlooped
  · exact hunlooped

/-- What the end of a link test leaves (R172). -/
theorem endTest_loop (p : Piu) : (endTest p).loop = p.loop := by unfold endTest; split <;> rfl
theorem endTest_begun (p : Piu) : (endTest p).begun = p.begun := by unfold endTest; split <;> rfl
theorem endTest_phase (p : Piu) : (endTest p).phase = .none := by
  unfold endTest
  split
  · rfl
  · next h => simpa [TestPhase.active] using h

theorem cabEmpty_of_not_occupied {s : State} (h : ¬ occupied s = true) : cabEmpty s = true := by
  simpa [cabEmpty] using h

theorem owned_icFloor (mode : Nat) (s : State) : Owned s (serveIcFloor mode s) := by
  unfold serveIcFloor
  split
  · exact owned_served _ (sound_setPiu rfl rfl rfl)
  · exact owned_refuse ..

theorem owned_icLoop (selection : Nat) (s : State) : Owned s (serveIcLoop selection s) := by
  unfold serveIcLoop
  split
  · exact owned_refuse ..
  · refine .ite (fun _ => owned_refuse ..) fun h => owned_served _ (sound_setPiu_of (fun _ => .inl ?_) id)
    simp only [not_or] at h
    exact cabEmpty_of_not_occupied h.2.1

theorem owned_icTestStart (s : State) : Owned s (serveIcTestStart s) := by
  refine .ite (fun _ => owned_refuse ..) fun _ => .ite (fun _ => owned_refuse ..) fun h =>
    owned_served _ (sound_setPiu_of (fun _ => .inl ?_) id)
  simp only [not_or] at h
  exact cabEmpty_of_not_occupied h.2.1

theorem owned_icTestStop (s : State) : Owned s (serveIcTestStop s) :=
  .ite (fun _ => owned_served _ (sound_setPiu_quiet (.inr (endTest_loop _)) (.inl (endTest_phase _)) (endTest_begun _)))
    fun _ => owned_refuse ..

theorem owned_icInsertError (s : State) : Owned s (serveIcInsertError s) :=
  .ite (fun _ => owned_refuse ..) fun _ => .ite (fun _ => owned_refuse ..) fun _ => owned_served _ (sound_setPiu rfl rfl rfl)

theorem owned_icHold (s : State) : Owned s (serveIcHold s) :=
  .ite (fun _ => owned_refuse ..) fun _ =>
    owned_served _ (sound_setPiu_quiet (.inl rfl) (.inl (endTest_phase _)) (endTest_begun _))

theorem owned_icConfig (depth offset autoLoop chime : Nat) (s : State) :
    Owned s (serveIcConfig depth offset autoLoop chime s) := by
  refine .ite (fun _ => owned_refuse ..) fun _ => ?_
  split
  · exact .ite (fun _ => owned_served _ (sound_setPiu rfl rfl rfl)) fun _ => owned_refuse ..
  · exact owned_refuse ..

theorem owned_icRelease (s : State) : Owned s (serveIcRelease s) :=
  .ite (fun _ => owned_served _ (sound_setPiu rfl rfl rfl)) fun _ => owned_refuse ..

theorem owned_icRead (s : State) : Owned s (serveIcRead s) := owned_read ..

/-! ### Hires (chapter 3) -/

theorem hireStartsAtIntercom_quiet (s : State) :
    (hireStartsAtIntercom s).piu.loop = .none ∧ (hireStartsAtIntercom s).piu.phase = .none := by
  unfold hireStartsAtIntercom
  extract_lets p cleared q
  split
  · exact ⟨rfl, endTest_phase _⟩
  · next h =>
    simp only [not_or, not_not] at h
    exact ⟨h.1, show s.piu.phase = .none by simpa [TestPhase.active] using h.2⟩

theorem sound_hireStartsAtIntercom (s : State) : Sound s (hireStartsAtIntercom s) := by
  have cleared : Sound s (s.setPiu { s.piu with upRun := 0, downRun := 0 }) := sound_setPiu rfl rfl rfl
  exact .ite (fun _ => cleared.trans ((sound_raise ..).comp
    (sound_setPiu_quiet (.inl rfl) (.inl (endTest_phase _)) (endTest_begun _)))) fun _ => cleared

/-- The intercom and the fare engine are apart: the intercom may take a hire start first. -/
theorem beginHire_eq (k : Slot) (h : Hire) (s : State) :
    beginHire k h s = recomputeSign (compose (((hireStartsAtIntercom s).setFen
      { (hireStartsAtIntercom s).fen with counter := (hireStartsAtIntercom s).fen.counter + 1 }).setHire k (some h))) := by
  unfold beginHire
  by_cases hl : s.piu.loop ≠ .none ∨ s.piu.phase.active = true
  · rw [hireStartsAtIntercom, if_pos (by exact hl), hireStartsAtIntercom, if_pos (by exact hl)]
    rfl
  · rw [hireStartsAtIntercom, if_neg (by exact hl), hireStartsAtIntercom, if_neg (by exact hl)]
    rfl

theorem seatsTaken_set_empty {f : Four (Option Hire)} {k : Slot} (he : f.get k = none) (h : Hire) :
    seatsTaken (f.set k (some h)) = seatsTaken f + h.party := by
  cases k <;> simp only [Four.get] at he <;>
    simp only [seatsTaken, Four.set, Four.toList, List.map_cons, List.map_nil, List.sum_cons, List.sum_nil, he, Option.map_some,
      Option.map_none, Option.getD_some, Option.getD_none] <;> omega

/-- A hire that starts in an empty slot of an open shift, within the free seats and with the intercom quiet (R35, R36). -/
theorem sound_newHire {s : State} {k : Slot} {h : Hire} (n : Nat) (hshift : s.sau.shift = .opened) (he : s.hire k = none)
    (hp : h.party ≤ freeSeats s) (hr : h.state = .running) (hl : s.piu.loop = .none) (ht : s.piu.phase = .none) :
    Sound s ((s.setFen { s.fen with counter := n }).setHire k (some h)) where
  pending := rfl
  account := by
    rintro ⟨⟨hseats, -⟩, hslot, hbills, -⟩
    refine ⟨⟨?_, fun hn => absurd hshift hn⟩, hslot, fun j g hg => ?_, fun hn => ?_⟩
    · have taken : seatsTaken (s.fen.slots.set k (some h)) = _ := seatsTaken_set_empty he h
      simp only [freeSeats] at hp
      show seatsTaken (s.fen.slots.set k (some h)) ≤ s.fen.seats
      omega
    · by_cases e : j = k
      · subst e
        rw [State.setHire_hire_same] at hg
        obtain rfl := Option.some.inj hg
        exact Hire.balances_of_not_stopped (.inl hr)
      · rw [State.setHire_hire_ne _ _ e] at hg
        exact hbills j g hg
    · exact hn.elim (absurd hl) (absurd ht)
  notices := .of_view rfl id
  lists := .of_view rfl

/-- What the checks of HIRE_START leave when all pass (Table 3-4). -/
theorem startRefusal_none {k : Slot} {party : Nat} {source : TariffSource} {tariff : Nat} {s : State}
    (h : startRefusal k party source tariff s = none) :
    s.sau.shift = .opened ∧ s.hire k = none ∧ party ≤ freeSeats s := by
  unfold startRefusal at h
  split_ifs at h with hshift _ _ hslot _ hfull
  · exact ⟨not_not.1 hshift, Option.not_isSome_iff_eq_none.1 hslot, Nat.le_of_not_lt hfull⟩

theorem hireStartsAtIntercom_frame (s : State) : (hireStartsAtIntercom s).fen = s.fen ∧ (hireStartsAtIntercom s).sau = s.sau := by
  unfold hireStartsAtIntercom
  dsimp only
  split <;> exact ⟨rfl, rfl⟩

theorem owned_hireStart (slot party source tariff : Nat) (s : State) : Owned s (serveHireStart slot party source tariff s) := by
  unfold serveHireStart
  split
  · refine .ite (fun _ => owned_refuse ..) fun _ => ?_
    split
    · exact owned_refuse ..
    · next hnone =>
      obtain ⟨hshift, he, hp⟩ := startRefusal_none hnone
      obtain ⟨hfen, hsau⟩ := hireStartsAtIntercom_frame s
      obtain ⟨hl, ht⟩ := hireStartsAtIntercom_quiet s
      refine owned_served _ ?_
      rw [beginHire_eq]
      refine (sound_recomputeSign _).comp ((sound_compose _).comp (.comp (sound_newHire _ ?_ ?_ ?_ rfl hl ht)
        (sound_hireStartsAtIntercom s)))
      · rw [hsau]
        exact hshift
      · rw [State.hire, hfen]
        exact he
      · rw [freeSeats, hfen]
        exact hp
  · exact owned_refuse ..

theorem owned_hireStop (slot : Nat) (s : State) : Owned s (serveHireStop slot s) :=
  owned_onHire fun _ h he _ => owned_served _
    ((sound_compose _).comp (by exact sound_setHire he rfl fun _ => Hire.stopped_balances _ h))

theorem owned_hireResume (slot : Nat) (s : State) : Owned s (serveHireResume slot s) :=
  owned_onHire fun _ _ he _ => .ite (fun _ => owned_refuse ..) fun _ => .ite (fun _ => owned_refuse ..) fun _ =>
    owned_served _ ((sound_compose _).comp (by exact sound_setHire he rfl fun _ => Hire.balances_of_not_stopped (.inl rfl)))

theorem owned_setHireTariff (slot source tariff : Nat) (s : State) : Owned s (serveSetHireTariff slot source tariff s) := by
  unfold serveSetHireTariff
  split
  · exact owned_refuse ..
  · exact owned_onHire fun _ _ he _ => .ite (fun _ => owned_refuse ..) fun _ =>
      owned_served _ (sound_setHire he rfl fun hb => hb)

theorem Hire.balances_of_running {h : Hire} (hr : h.state = .running) : h.afterExtras.balances := by
  rw [Hire.afterExtras, if_pos hr]
  exact Hire.balances_of_not_stopped (.inl hr)

/-- A stopped hire whose extras change is billed again, if its tenders are within the new due total (R51, R52). -/
theorem Hire.afterExtras_balances {h : Hire}
    (hb : h.state ≠ .running → ∃ b, h.bill = some b ∧ (h.tenders.map (·.amount)).sum ≤ h.fare + b.topUp + h.extrasTotal) :
    h.afterExtras.balances := by
  by_cases hr : h.state = .running
  · exact Hire.balances_of_running hr
  · rw [Hire.afterExtras, if_neg hr]
    obtain ⟨b, e, hsum⟩ := hb hr
    exact Hire.rebilled_balances e hsum

/-- The states that take a change of extras, but for RUNNING, are stopped. -/
theorem stopped_of_takesExtras {st : HireState} (hs : st ∈ [HireState.running, .frozen, .due]) (hr : st ≠ .running) :
    st = .frozen ∨ st = .due ∨ st = .paying := by
  simp only [List.mem_cons, List.not_mem_nil, or_false, hr, false_or] at hs
  exact hs.imp_right .inl

theorem owned_addExtra (slot code amount : Nat) (s : State) : Owned s (serveAddExtra slot code amount s) := by
  refine owned_onHire fun k h he hs => ?_
  split
  · exact owned_refuse ..
  · split
    · exact owned_refuse ..
    · next a _ =>
      refine .ite (fun _ => owned_refuse ..) fun _ => owned_served _ ((sound_compose _).comp
        (sound_setHire he (Hire.afterExtras_party _) fun hb => Hire.afterExtras_balances fun hr => ?_))
      obtain ⟨b, e, hdue, hsum⟩ := hb.bill (stopped_of_takesExtras hs hr)
      refine ⟨b, e, ?_⟩
      show (h.tenders.map (·.amount)).sum ≤ h.fare + b.topUp + (h.extrasTotal + a)
      omega

theorem owned_removeExtra (slot index : Nat) (s : State) : Owned s (serveRemoveExtra slot index s) := by
  refine owned_onHire fun k h he hs => ?_
  split
  · exact owned_refuse ..
  · next x _ =>
    refine .ite (fun _ => owned_refuse ..) fun hpaid => owned_served _ ((sound_compose _).comp
      (sound_setHire he (Hire.afterExtras_party _) fun hb => Hire.afterExtras_balances fun hr => ?_))
    obtain ⟨b, e, hdue, hsum⟩ := hb.bill (stopped_of_takesExtras hs hr)
    refine ⟨b, e, ?_⟩
    have hne : (h.state != .running) = true := by simpa using hr
    simp only [Hire.underpaidBy, e, hne, Bool.true_and, decide_eq_true_eq, not_le] at hpaid
    exact hpaid.le

theorem owned_hireAbandon (slot : Nat) (s : State) : Owned s (serveHireAbandon slot s) :=
  owned_onHire fun _ _ _ _ => owned_served _ ((sound_closeHire ..).trans (sound_compose _))

theorem owned_hireRead (slot : Nat) (s : State) : Owned s (serveHireRead slot s) := by
  unfold serveHireRead
  split
  · exact owned_refuse ..
  · split <;> exact owned_read ..

/-! ### Shifts (chapter 6) -/

theorem sound_takeSauReport (s : State) : Sound s (takeSauReport s) := by
  unfold takeSauReport
  split
  · exact .refl s
  · exact (sound_setTransit s _).trans (sound_postReport ..)

/-- Other seats offered in a cab that holds no hire (R34). -/
theorem sound_offerSeats {s : State} {f : Fen} (hs : f.slots = s.fen.slots) (hc : s.sau.shift ≠ .opened) :
    Sound s (s.setFen f) where
  pending := rfl
  account := by
    rintro ⟨⟨-, hshift⟩, hslot, hbills, hloops⟩
    have empty := cabEmpty_iff_slots.1 (hshift hc)
    have none_taken : seatsTaken f.slots = 0 := by
      rw [hs]
      have h0 := empty .s0
      have h1 := empty .s1
      have h2 := empty .s2
      have h3 := empty .s3
      simp only [Four.get] at h0 h1 h2 h3
      simp [seatsTaken, Four.toList, h0, h1, h2, h3]
    have still : cabEmpty (s.setFen f) = true := cabEmpty_iff_slots.2 fun k => by
      rw [State.setFen_fen, hs]
      exact empty k
    refine ⟨⟨none_taken.trans_le (Nat.zero_le _), fun _ => still⟩, hslot, fun k h e => ?_, fun _ => still⟩
    rw [State.hire, State.setFen_fen, hs, empty k] at e
    exact nomatch e
  notices := .of_view rfl id
  lists := .of_view rfl

/-- A shift opens: one summary slot that was free becomes the only reserved one (R115, R125). -/
theorem sound_openSau (o : Opening) {s : State} (hc : s.sau.shift = .closed)
    (hf : s.sau.slot0 = .free ∨ s.sau.slot1 = .free) : Sound s (s.setSau (openSau o s)) where
  pending := rfl
  account := by
    rintro ⟨⟨hseats, -⟩, ⟨hclosed, -⟩, hbills, hloops⟩
    obtain ⟨h0, h1⟩ := hclosed hc
    refine ⟨⟨hseats, fun hn => absurd rfl hn⟩, ⟨nofun, fun _ => ?_⟩, hbills, hloops⟩
    by_cases hfree : s.sau.slot0 = .free
    · exact .inl (by simp [openSau, hfree, h1])
    · exact .inr (by simp [openSau, hfree, h0, hf.resolve_left hfree])
  notices := .of_view rfl id
  lists := .of_view rfl

/-- A shift's lag limit is taken from 1 (Table 4-1). -/
theorem sound_setLagLimit {s : State} {v : Vbu} (hl : 1 ≤ v.lagLimit) (hc : v.lagCount = s.vbu.lagCount)
    (hr : v.write = s.vbu.write ∧ v.ready = s.vbu.ready ∧ v.console = s.vbu.console) : Sound s (s.setVbu v) where
  pending := rfl
  account := .of_view rfl
  notices := fun ⟨_, hraised, hrun⟩ => ⟨hl, hraised, fun hp => ⟨(hrun hp).1, (hrun hp).2.1.trans (by
    simp [displayStale, hc]), (hrun hp).2.2⟩⟩
  quiet := fun ⟨_, hraised⟩ => ⟨hl, hraised⟩
  lists := fun ⟨hroles, hviews, hq⟩ => ⟨hroles, by
    obtain ⟨hw, hready, hconsole⟩ := hr
    simpa [ViewRolesHeld, hw, hready, hconsole] using hviews, hq⟩

theorem Vbu.put_roles (v : Vbu) (b : BufName) (x : Option Snapshot) :
    (v.put b x).lagCount = v.lagCount ∧ (v.put b x).write = v.write ∧ (v.put b x).ready = v.ready ∧
      (v.put b x).console = v.console := by
  cases b <;> exact ⟨rfl, rfl, rfl, rfl⟩

theorem sound_openView {lag : Nat} (hl : 1 ≤ lag) (s : State) : Sound s (openView lag s) := by
  obtain ⟨hc, hr⟩ := s.vbu.put_roles s.vbu.console none
  exact (sound_reloadLag _).comp (sound_setLagLimit hl hc hr)

theorem sound_openShift {o : Opening} {s : State} (hl : 1 ≤ o.lag) (hc : s.sau.shift = .closed)
    (hf : s.sau.slot0 = .free ∨ s.sau.slot1 = .free) : Sound s (openShift o s) := by
  have seated : Sound s ((s.setFen { s.fen with seats := o.seats, sharing := o.sharing, counter := 0 }).setSau
      (openSau o s)) :=
    .comp (sound_openSau o (s := s.setFen { s.fen with seats := o.seats, sharing := o.sharing, counter := 0 }) hc hf)
      (sound_offerSeats rfl (by rw [hc]; exact nofun))
  exact (sound_recomputeSign _).comp (.comp (by exact sound_setStu rfl rfl id) (.comp (sound_openView hl _) seated))

/-- What the checks of SHIFT_OPEN leave when all pass (Table 6-2a). -/
theorem openRefusal_none {s : State} (h : openRefusal s = none) :
    s.sau.shift = .closed ∧ (s.sau.slot0 = .free ∨ s.sau.slot1 = .free) := by
  unfold openRefusal at h
  split_ifs at h with hruns _ _ _ _ hfull
  · refine ⟨?_, ?_⟩
    · simpa [shiftRuns] using hruns
    · by_contra hn
      exact hfull ⟨fun h0 => hn (.inl h0), fun h1 => hn (.inr h1)⟩

theorem owned_shiftOpen (driver seats sharing lag floor ceiling : Nat) (s : State) :
    Owned s (serveShiftOpen driver seats sharing lag floor ceiling s) := by
  unfold serveShiftOpen
  split
  · exact owned_refuse ..
  · refine .ite (fun _ => owned_refuse ..) fun hrange => ?_
    split
    · exact owned_refuse ..
    · next hnone =>
      obtain ⟨hc, hf⟩ := openRefusal_none hnone
      refine owned_served _ (sound_openShift ?_ hc hf)
      simp only [Opening.inRange, not_not, Bool.and_eq_true, within_eq_true_iff] at hrange
      exact hrange.1.1.2.1

/-- A shift that goes on in another state; hires are held in OPEN only (R113, R116). -/
theorem sound_changeShift {st : ShiftState} {s : State} (hs : s.sau.shift ≠ .closed) (ht : st ≠ .closed)
    (he : st ≠ .opened → cabEmpty s = true) : Sound s (changeShift st s) :=
  (sound_recomputeSign _).comp
    { pending := rfl
      account := fun ⟨⟨hseats, _⟩, ⟨_, hruns⟩, hbills, hloops⟩ =>
        ⟨⟨hseats, he⟩, ⟨fun hn => absurd hn ht, fun _ => hruns hs⟩, hbills, hloops⟩
      notices := .of_view rfl id
      lists := .of_view rfl }

theorem owned_shiftBreak (s : State) : Owned s (serveShiftBreak s) :=
  .ite (fun h => owned_served _ (sound_changeShift (by rw [h.1]; exact nofun) nofun fun _ => h.2)) fun _ => owned_refuse ..

theorem owned_shiftResume (s : State) : Owned s (serveShiftResume s) :=
  .ite (fun h => owned_served _ (sound_changeShift (by rw [h]; exact nofun) nofun fun hn => absurd rfl hn))
    fun _ => owned_refuse ..

theorem SummarySlot.withOrder_eq_reserved {n : Nat} {x : SummarySlot} : x.withOrder n = .reserved ↔ x = .reserved := by
  cases x <;> simp [SummarySlot.withOrder]

/-- A shift closes over an empty cab: its reserved slot becomes HELD (R117, R125). -/
theorem sound_closeSau {s : State} (hs : s.sau.shift ≠ .closed) (he : cabEmpty s = true) :
    Sound s (s.setSau (closeSau s)) where
  pending := rfl
  account := by
    rintro ⟨⟨hseats, -⟩, ⟨-, hruns⟩, hbills, hloops⟩
    have none_reserved : (closeSau s).slot0 ≠ .reserved ∧ (closeSau s).slot1 ≠ .reserved := by
      rcases hruns hs with ⟨h0, h1⟩ | ⟨h0, h1⟩
      · simp [closeSau, h0, SummarySlot.withOrder_eq_reserved, h1]
      · simp [closeSau, h0, SummarySlot.withOrder_eq_reserved]
    refine ⟨⟨hseats, fun _ => he⟩, ⟨fun _ => none_reserved, fun hn => absurd ?_ hn⟩, hbills, hloops⟩
    unfold closeSau
    split <;> rfl
  notices := .of_view rfl id
  lists := .of_view rfl

theorem owned_shiftClose (s : State) : Owned s (serveShiftClose s) := by
  refine .ite (fun h => owned_served _ ?_) fun _ => owned_refuse ..
  simp only [closeAllowed, shiftRuns, Bool.and_eq_true, bne_iff_ne] at h
  exact (sound_raise ..).comp ((sound_recomputeSign _).comp (sound_closeSau h.1.1.1 h.1.1.2))

/-- A summary slot replaced by one that is reserved if it was. -/
theorem sound_setSummarySlot {n : Nat} {x : SummarySlot} {s : State} (hx : x = .reserved ↔ summarySlot s n = .reserved) :
    Sound s (s.setSummarySlot n x) := by
  unfold summarySlot at hx
  refine .ite (fun hn => ?_) fun hn => ?_
  · rw [if_pos hn] at hx
    exact {
      pending := rfl
      account := fun ⟨hseats, hslot, hrest⟩ => ⟨hseats, by simpa [SlotReserved, hx] using hslot, hrest⟩
      notices := .of_view rfl id
      lists := .of_view rfl }
  · rw [if_neg hn] at hx
    exact {
      pending := rfl
      account := fun ⟨hseats, hslot, hrest⟩ => ⟨hseats, by simpa [SlotReserved, hx] using hslot, hrest⟩
      notices := .of_view rfl id
      lists := .of_view rfl }

theorem owned_summaryFetch (selector : Nat) (s : State) : Owned s (serveSummaryFetch selector s) := by
  unfold serveSummaryFetch
  split
  · exact owned_refuse ..
  · split
    · next he => exact owned_served _ (sound_setSummarySlot (by simp [he]))
    · exact owned_refuse ..

theorem owned_summaryRelease (index : Nat) (s : State) : Owned s (serveSummaryRelease index s) := by
  refine .ite (fun _ => owned_refuse ..) fun _ => ?_
  split
  · next he =>
    exact owned_served _ ((sound_setSummarySlot SummarySlot.withOrder_eq_reserved).comp
      (sound_setSummarySlot (by simp [he])))
  · exact owned_refuse ..

theorem owned_totalsRead (s : State) : Owned s (serveTotalsRead s) := .ite (fun _ => owned_read ..) fun _ => owned_refuse ..

/-! ### The sign (chapter 7) -/

theorem owned_signConfig (availability seats text alert : Nat) (s : State) :
    Owned s (serveSignConfig availability seats text alert s) := by
  refine .ite (fun _ => owned_refuse ..) fun _ => ?_
  split
  · exact .ite (fun _ => owned_served _ ((sound_setRbc ..).comp (sound_setSgu rfl id))) fun _ => owned_refuse ..
  · exact owned_refuse ..

theorem owned_signText (text : List Byte) (s : State) : Owned s (serveSignText text s) :=
  .ite (fun _ => owned_refuse ..) fun _ => owned_served _ ((sound_recomputeSign _).comp (sound_setSgu rfl id))

theorem owned_alertClear (s : State) : Owned s (serveAlertClear s) :=
  .ite (fun _ => owned_refuse ..) fun _ =>
    .ite (fun _ => owned_served _ ((sound_latchFalls s).trans (sound_recomputeSign _))) fun _ => owned_read ..

theorem owned_signHold (s : State) : Owned s (serveSignHold s) := by
  unfold serveSignHold
  split
  · exact .ite (fun _ => owned_begun (sound_setRbc ..)) fun _ => owned_served _ (sound_enterHeld s)
  · exact .ite (fun _ => owned_refuse ..) fun _ => owned_begun (sound_setRbc ..)
  · exact owned_refuse ..

theorem owned_signRelease (s : State) : Owned s (serveSignRelease s) :=
  .ite (fun _ => owned_served _ ((sound_setRbc ..).trans (sound_fullRefresh _))) fun _ => owned_refuse ..

theorem owned_lampTest (s : State) : Owned s (serveLampTest s) := by
  unfold serveLampTest
  split
  · exact owned_begun ((sound_setRbc ..).trans (sound_beginLamp _))
  · exact owned_refuse ..
  · exact owned_refuse ..

theorem owned_signRead (s : State) : Owned s (serveSignRead s) := owned_read ..

end Sys2Proof.Machine

/-! ## Supply failures and starts (chapter 10), and what every step keeps

While the blocks start one after the other, the condition-holds flags do not all follow their conditions yet. So a start is
shown in two parts: each of its steps keeps everything but those flags (`Kept`), and the steps that report a condition bring
its flag back (`Reported`). -/

namespace Sys2Proof.Machine

/-! ### Changes that keep all but the condition-holds flags -/

/-- As `Sound`, but for the condition-holds flags. -/
structure Kept (s t : State) : Prop where
  pending : t.pending = s.pending
  account : AccountsHold s → AccountsHold t
  lists   : ListsHold s → ListsHold t
  quiet   : Quiet s → Quiet t

theorem Sound.kept {s t : State} (h : Sound s t) : Kept s t := ⟨h.pending, h.account, h.lists, h.quiet⟩

theorem Kept.refl (s : State) : Kept s s := (Sound.refl s).kept

theorem Kept.trans {s t u : State} (a : Kept s t) (b : Kept t u) : Kept s u where
  pending := b.pending.trans a.pending
  account := b.account ∘ a.account
  lists := b.lists ∘ a.lists
  quiet := b.quiet ∘ a.quiet

theorem Kept.comp {s t u : State} (b : Kept t u) (a : Kept s t) : Kept s u := a.trans b

theorem Kept.ite {s t u : State} {p : Prop} [Decidable p] (a : p → Kept s t) (b : ¬ p → Kept s u) :
    Kept s (if p then t else u) := by
  split
  · exact a ‹_›
  · exact b ‹_›

theorem kept_setSmr (s : State) (b : Smr) : Kept s (s.setSmr b) := ⟨rfl, .of_view rfl, .of_view rfl, id⟩

theorem kept_condBegin (k : NoticeKind) (s : State) : Kept s (condBegin k s) :=
  ⟨rfl, .of_view rfl, .of_view rfl, fun ⟨hl, hr⟩ => ⟨hl, raisedEnabled_condBegin k hr⟩⟩

theorem kept_setVbu {s : State} {v : Vbu} (hl : 1 ≤ s.vbu.lagLimit → 1 ≤ v.lagLimit)
    (hr : s.vbu.write ≠ s.vbu.ready ∧ s.vbu.ready ≠ s.vbu.console ∧ s.vbu.write ≠ s.vbu.console →
      v.write ≠ v.ready ∧ v.ready ≠ v.console ∧ v.write ≠ v.console) : Kept s (s.setVbu v) :=
  ⟨rfl, .of_view rfl, fun ⟨h, hv, hq⟩ => ⟨h, hr hv, hq⟩, fun ⟨h, hs⟩ => ⟨hl h, hs⟩⟩

/-- A condition begun again where it holds. -/
theorem kept_report (k : NoticeKind) (b : Bool) (s : State) : Kept s (if b then condBegin k s else s) :=
  .ite (fun _ => kept_condBegin k s) fun _ => .refl s

/-! ### Supply failure (R194) -/

theorem sound_deliverFen (s : State) (e : FenEvent) : Sound s (deliverFen s e) := by
  cases e with
  | report r => exact sound_applyReport r s
  | bandChange n => exact sound_applyBandChange n s
  | confirm entries => exact sound_applyConfirmation entries s

theorem sound_drainEvents (s : State) : Sound s (drainEvents s) :=
  (sound_foldl (p := id) (fun t r => sound_postReport r t) _ _).comp ((sound_setTransit ..).comp
    ((sound_foldl (p := id) sound_deliverFen _ _).comp (sound_setTransit s _)))

theorem sound_closePartial (s : State) : Sound s (closePartial s) :=
  (sound_setMiu ..).trans ((sound_applyReport ..).trans ((sound_suspendRunning _).trans (sound_postReport ..)))

theorem sound_dropLink (s : State) :
    Sound s (s.setClc { s.clc with rx := .hunt, bytes := [], buffer := none, answer := none, owed := [] }) :=
  sound_setClc rfl fun _ => Nat.zero_le _

theorem sound_dropBuffers (s : State) :
    Sound s (s.setVbu { s.vbu with bufA := none, bufB := none, bufC := none }) := sound_setVbu rfl rfl id

theorem sound_stopIntercom (s : State) : Sound s (s.setPiu { s.piu with
    r2f := s.piu.r2f.drain, f2r := s.piu.f2r.drain, loop := .none, phase := .none, chime := none, fdo := silence
    begun := [], rlo := [] }) :=
  sound_setPiu_of (fun h => absurd h (by simp)) fun _ => Nat.zero_le _

theorem sound_dropWorking (s : State) : Sound s (dropWorking s) :=
  (sound_setTransit ..).comp ((sound_dropBuffers _).comp ((sound_stopIntercom _).comp
    ((sound_setRbc ..).comp ((sound_setTlc ..).comp (sound_dropLink s)))))

theorem kept_loseSupply (l : SupplyLoss) (s : State) : Kept s (loseSupply l s) :=
  ((sound_drainEvents s).trans ((sound_closePartial _).trans (sound_dropWorking _))).kept.trans
    ((kept_setSmr ..).trans (kept_setSmr ..))

theorem loseSupply_down (l : SupplyLoss) (s : State) : powered (loseSupply l s) = false := by
  have h : (loseSupply l s).smr.supply = .down := by
    obtain ⟨_ | _, pins⟩ := l <;> rfl
  simp [powered, h]

theorem NoticesFollow.quiet {s : State} (h : NoticesFollow s) : Quiet s := ⟨h.1, h.2.1⟩

/-- Where the blocks do not run, no condition-holds flag counts. -/
theorem Quiet.follow_down {s : State} (h : Quiet s) (hp : powered s = false) : NoticesFollow s :=
  ⟨h.1, h.2, fun hn => absurd hn (by rw [hp]; exact nofun)⟩

theorem sound_loseSupply (l : SupplyLoss) (s : State) : Sound s (loseSupply l s) where
  pending := (kept_loseSupply l s).pending
  account := (kept_loseSupply l s).account
  lists := (kept_loseSupply l s).lists
  quiet := (kept_loseSupply l s).quiet
  notices h := ((kept_loseSupply l s).quiet h.quiet).follow_down (loseSupply_down l s)

/-- The levels of the pins, while the part does not run (R188). -/
theorem sound_setPins (p : SupplyPins) {s : State} (hp : powered s = false) : Sound s (setPins p s) where
  pending := rfl
  account := .of_view rfl
  lists := .of_view rfl
  notices h := Quiet.follow_down (s := setPins p s) h.quiet hp

/-! ### The steps of a start -/

/-- The links' state as the CLC starts (R193). -/
theorem kept_startClc (r : Reason) (times : StartTimes) (s : State) : Kept s (startClc r times s) where
  pending := rfl
  account := .of_view rfl
  lists := fun ⟨hl, hv, _, hrest⟩ => ⟨hl, hv, Nat.zero_le _, hrest⟩
  quiet := fun ⟨hl, _⟩ => ⟨hl, raisedEnabled_raise r fun k hr => by cases k <;> exact nomatch hr⟩

theorem kept_reportWaiting (s : State) : Kept s (reportWaiting s) := kept_report ..

theorem kept_startView (s : State) : Kept s (startView s) := by
  refine (kept_report ..).comp ((sound_setTransit ..).kept.comp (kept_setVbu id fun _ => ?_))
  exact ⟨nofun, nofun, nofun⟩

theorem sound_startTlc (s : State) : Sound s (startTlc s) := sound_setTlc ..

theorem freshList_roles_nodup (roles : Roles (Option Nat)) (image : Roles Content) :
    ((freshList roles image).map (·.role)).Nodup := by
  have e : (freshList roles image).map (·.role)
      = [Role.alert, .availability, .seats, .text].filter fun r => (roles.get r).isSome := by
    simp only [freshList, List.map_map]
    exact List.map_id _
  rw [e]
  exact List.Nodup.filter _ (by decide)

/-- A condition reported raises an enabled kind alone (R187). -/
theorem Notice.beginsIf_raised {n : Notice} {b : Bool} (h : n.raised = true → n.enabled = true)
    (hr : (n.beginsIf b).raised = true) : (n.beginsIf b).enabled = true := by
  unfold Notice.beginsIf at hr ⊢
  split at hr
  · next hb => rw [if_pos hb]; exact Notice.begins_raised h hr
  · next hb => rw [if_neg hb]; exact h hr

theorem kept_startSign (s : State) : Kept s (startSign s) := by
  rw [startSign_eq]
  exact {
    pending := rfl
    account := .of_view rfl
    lists := fun ⟨_, hv, hq⟩ => ⟨by
      show (List.map (·.role) (if s.sgu.roles.availability.isSome then freshList _ _ else [])).Nodup
      split
      · exact freshList_roles_nodup ..
      · exact List.nodup_nil, hv, hq⟩
    quiet := fun ⟨hl, hr⟩ => ⟨hl, RaisedEnabled.set (k := .alert) hr (Notice.beginsIf_raised (hr .alert))⟩ }

theorem sound_startIntercom (s : State) : Sound s (startIntercom s) :=
  sound_setPiu_of (fun h => absurd h (by simp)) fun _ => Nat.zero_le _

theorem kept_beginStart (restore : Bool) (times : StartTimes) (s : State) : Kept s (beginStart restore times s) :=
  .ite (fun _ => (sound_post ..).kept.comp (kept_setSmr ..)) fun _ => kept_setSmr ..

theorem sound_startMiu (restore : Bool) (s : State) : Sound s (startMiu restore s) := sound_setMiu ..

theorem kept_startStu (restore : Bool) (s : State) : Kept s (startStu restore s) := by
  refine .ite (fun _ => (kept_reportWaiting _).comp ?_) fun _ => ?_
  · exact ⟨rfl, .of_view rfl, fun ⟨hl, hv, ho, hq, hd, hb⟩ => ⟨hl, hv, ho, (List.length_map _).trans_le hq, hd, hb⟩, id⟩
  · exact ⟨rfl, .of_view rfl, fun ⟨hl, hv, ho, _, _, hb⟩ => ⟨hl, hv, ho, Nat.zero_le _, Nat.zero_le _, hb⟩, id⟩

theorem sound_startTfs (restore : Bool) (s : State) : Sound s (startTfs restore s) :=
  (sound_setTfs ..).comp ((sound_setTfs ..).comp (.ite (fun _ => .refl s) fun _ => sound_setTfs ..))

/-- A hire released from a payment that no entry can make (R63). -/
theorem sound_releasePaying (s : State) (k : Slot) : Sound s (releasePaying s k) := by
  unfold releasePaying
  split
  · next h he =>
    refine .ite (fun hp => (sound_raise ..).comp ?_) fun _ => .refl s
    exact sound_setHire he rfl fun hb _ => hb.bill (.inr (.inr hp.1))
  · exact .refl s

theorem kept_startFen (restore : Bool) (s : State) : Kept s (startFen restore s) := by
  refine .ite (fun _ => (sound_foldl (p := id) sound_releasePaying _ s).kept) fun _ => ?_
  exact {
    pending := rfl
    account := fun ⟨_, hslot, _, _⟩ =>
      ⟨⟨Nat.zero_le _, fun _ => rfl⟩, hslot, (fun k _ e => by cases k <;> exact nomatch e), fun _ => rfl⟩
    lists := .of_view rfl
    quiet := id }

theorem sound_refreshFen (s : State) : Sound s (refreshFen s) := sound_applyBandChange ..

/-- The SAU of a blank start finds the cab empty, since the FEN has started before it (Table 10-2). -/
theorem kept_startSau {restore : Bool} {s : State} (h : restore = false → cabEmpty s = true) :
    Kept s (startSau restore s) := by
  refine .ite (fun _ => .refl s) fun hr => ?_
  have empty := h (Bool.eq_false_iff.2 hr)
  exact {
    pending := rfl
    account := fun ⟨⟨hseats, _⟩, _, hbills, hloops⟩ =>
      ⟨⟨hseats, fun _ => empty⟩, ⟨fun _ => ⟨nofun, nofun⟩, fun hn => absurd rfl hn⟩, hbills, hloops⟩
    lists := .of_view rfl
    quiet := id }

theorem kept_startVbu (restore : Bool) (s : State) : Kept s (startVbu restore s) := by
  refine (kept_startView _).comp (.ite (fun _ => .refl s) fun _ => kept_setVbu (fun _ => ?_) id)
  exact Nat.one_le_of_lt (Nat.succ_pos 19)

theorem kept_startSgu (restore : Bool) (s : State) : Kept s (startSgu restore s) :=
  (kept_startSign _).comp (.ite (fun _ => .refl s) fun _ => ⟨rfl, .of_view rfl, .of_view rfl, id⟩)

theorem sound_startPiu (restore : Bool) (s : State) : Sound s (startPiu restore s) :=
  (sound_startIntercom _).comp (.ite (fun _ => .refl s) fun _ => sound_setPiu rfl rfl rfl)

/-! ### Steps one after the other -/

/-- Each step of the list keeps what it should where the steps before it have brought the condition given. -/
def StepsKeep : List (State → State) → (State → Prop) → Prop
  | [], _ => True
  | f :: l, c => (∀ t, c t → Kept t (f t)) ∧ ∃ d : State → Prop, (∀ t, c t → d (f t)) ∧ StepsKeep l d

/-- However many of its steps a start takes, all but the condition-holds flags is kept. -/
theorem StepsKeep.take {l : List (State → State)} {c : State → Prop} (h : StepsKeep l c) (n : Nat) {s : State} (hs : c s) :
    Kept s (runSteps (l.take n) s) := by
  induction l generalizing n c s with
  | nil => rw [List.take_nil]; exact .refl s
  | cons f l ih =>
    cases n with
    | zero => exact .refl s
    | succ n =>
      obtain ⟨hf, d, hd, hl⟩ := h
      exact (hf s hs).trans (ih hl n (hd s hs))

/-- A step that keeps on its own, before steps that want nothing of it. -/
theorem StepsKeep.cons {f : State → State} {l : List (State → State)} {c : State → Prop} (hf : ∀ t, Kept t (f t))
    (hl : StepsKeep l fun _ => True) : StepsKeep (f :: l) c :=
  ⟨fun t _ => hf t, _, fun _ _ => trivial, hl⟩

theorem cabEmpty_refreshFen {s : State} (h : cabEmpty s = true) : cabEmpty (refreshFen s) = true := by
  refine cabEmpty_iff_slots.2 fun k => ?_
  have : (refreshFen s).fen.slots.get k = (s.fen.slots.get k).map _ := Four.get_map ..
  rw [this, cabEmpty_iff_slots.1 h k]
  rfl

theorem startSteps_keep (restore : Bool) (times : StartTimes) : StepsKeep (startSteps restore times) fun _ => True := by
  refine .cons (fun _ => kept_beginStart ..) (.cons (fun _ => kept_startClc ..) (.cons (fun t => (sound_startMiu restore t).kept)
    (.cons (fun _ => kept_startStu ..) (.cons (fun t => (sound_startTlc t).kept)
    (.cons (fun t => (sound_startTfs restore t).kept) ?fen)))))
  have after : StepsKeep [startVbu restore, startSgu restore, startPiu restore, sealStore restore, endStart]
      fun _ => True :=
    .cons (fun _ => kept_startVbu ..) (.cons (fun _ => kept_startSgu ..) (.cons (fun t => (sound_startPiu restore t).kept)
      (.cons (fun t => kept_setSmr t _) (.cons (fun t => kept_setSmr t _) trivial))))
  case fen =>
    refine ⟨fun t _ => kept_startFen restore t, fun t => restore = false → cabEmpty t = true, fun t _ hr => ?_,
      fun t _ => (sound_refreshFen t).kept, fun t => restore = false → cabEmpty t = true,
      fun t h hr => cabEmpty_refreshFen (h hr), fun t h => kept_startSau h, _, fun _ _ => trivial, after⟩
    rw [hr]
    rfl

/-! ### The conditions reported at a start -/

/-- The condition-holds flags of the conditions that have been reported follow them, and the others are down. -/
def WatchView.reported (stale wait alert : Bool) (w : WatchView) : Prop :=
  w.pins = ⟨true, true⟩ ∧ w.staleHolds = (stale && w.lagCount == 0) ∧ w.waitHolds = (wait && w.waiting) ∧
    w.alertHolds = (alert && w.latch)

def Reported (stale wait alert : Bool) (s : State) : Prop := s.watch.reported stale wait alert

theorem Reported.follow {s : State} (h : Reported true true true s) (hq : Quiet s) : NoticesFollow s := by
  obtain ⟨hpins, hstale, hwait, halert⟩ := h
  exact ⟨hq.1, hq.2, fun _ => ⟨hpins, hstale.trans (Bool.true_and _), hwait.trans (Bool.true_and _),
    halert.trans (Bool.true_and _)⟩⟩

/-- A change that leaves the conditions and the flags. -/
theorem Reported.of_watch {a b c : Bool} {s t : State} (h : Reported a b c s) (e : t.watch = s.watch) : Reported a b c t := by
  unfold Reported
  rw [e]
  exact h

theorem reported_startClc (r : Reason) (times : StartTimes) {s : State} (hp : s.smr.pins = ⟨true, true⟩) :
    Reported false false false (startClc r times s) := by
  unfold Reported startClc
  rw [watch_raise]
  exact ⟨hp, rfl, rfl, rfl⟩

theorem Reported.reportWaiting {a c : Bool} {s : State} (h : Reported a false c s) : Reported a true c (reportWaiting s) := by
  obtain ⟨hpins, hstale, hwait, halert⟩ := h
  unfold Machine.reportWaiting
  split
  · next hw => exact ⟨hpins, hstale, hw.symm, halert⟩
  · next hw => exact ⟨hpins, hstale, hwait.trans (Bool.eq_false_iff.2 hw).symm, halert⟩

theorem Reported.startView {b c : Bool} {s : State} (h : Reported false b c s) : Reported true b c (startView s) := by
  obtain ⟨hpins, hstale, hwait, halert⟩ := h
  rw [startView_eq]
  refine ⟨hpins, ?_, hwait, halert⟩
  show (s.clc.notices.displayStale.beginsIf (s.vbu.lagCount == 0)).holds = (s.vbu.lagCount == 0)
  unfold Notice.beginsIf
  split
  · next hw => exact hw.symm
  · next hw => exact Eq.trans hstale (Bool.eq_false_iff.2 hw).symm

theorem Reported.startSign {a b : Bool} {s : State} (h : Reported a b false s) : Reported a b true (startSign s) := by
  obtain ⟨hpins, hstale, hwait, halert⟩ := h
  rw [startSign_eq]
  refine ⟨hpins, hstale, hwait, ?_⟩
  show (s.clc.notices.alert.beginsIf s.sgu.latch).holds = s.sgu.latch
  unfold Notice.beginsIf
  split
  · next hw => exact hw.symm
  · next hw => exact Eq.trans halert (Bool.eq_false_iff.2 hw).symm

theorem Reported.startTlc {a b c : Bool} {s : State} (h : Reported a b c s) : Reported a b c (startTlc s) := h.of_watch rfl

theorem Reported.startIntercom {a b c : Bool} {s : State} (h : Reported a b c s) : Reported a b c (startIntercom s) :=
  h.of_watch rfl

theorem Reported.setSmr {a b c : Bool} {s : State} {m : Smr} (h : Reported a b c s) (hp : m.pins = s.smr.pins) :
    Reported a b c (s.setSmr m) := by
  obtain ⟨hpins, hstale, hwait, halert⟩ := h
  exact ⟨hp.trans hpins, hstale, hwait, halert⟩

theorem Reported.startMiu {a b c : Bool} {restore : Bool} {s : State} (h : Reported a b c s) :
    Reported a b c (startMiu restore s) := h.of_watch rfl

theorem Reported.refreshFen {a b c : Bool} {s : State} (h : Reported a b c s) : Reported a b c (refreshFen s) := h.of_watch rfl

theorem Reported.startStu {a c : Bool} {restore : Bool} {s : State} (h : Reported a false c s) :
    Reported a true c (startStu restore s) := by
  obtain ⟨hpins, hstale, hwait, halert⟩ := h
  unfold Machine.startStu
  split
  · exact Reported.reportWaiting ⟨hpins, hstale, hwait, halert⟩
  · exact ⟨hpins, hstale, hwait, halert⟩

theorem Reported.startTfs {a b c : Bool} {restore : Bool} {s : State} (h : Reported a b c s) :
    Reported a b c (startTfs restore s) :=
  h.of_watch (by unfold Machine.startTfs; cases restore <;> rfl)

theorem watch_releasePaying (s : State) (k : Slot) : (releasePaying s k).watch = s.watch := by
  unfold releasePaying
  split
  · split
    · exact watch_raise ..
    · rfl
  · rfl

theorem Reported.startFen {a b c : Bool} {restore : Bool} {s : State} (h : Reported a b c s) :
    Reported a b c (startFen restore s) := by
  refine h.of_watch ?_
  cases restore with
  | false => rfl
  | true => simp [Machine.startFen, Slot.all, watch_releasePaying]

theorem Reported.startSau {a b c : Bool} {restore : Bool} {s : State} (h : Reported a b c s) :
    Reported a b c (startSau restore s) :=
  h.of_watch (by cases restore <;> rfl)

theorem Reported.startVbu {b c : Bool} {restore : Bool} {s : State} (h : Reported false b c s) :
    Reported true b c (startVbu restore s) := by
  refine Reported.startView ?_
  split
  · exact h
  · exact h

theorem Reported.startSgu {a b : Bool} {restore : Bool} {s : State} (h : Reported a b false s) :
    Reported a b true (startSgu restore s) := by
  refine Reported.startSign ?_
  split
  · exact h
  · exact h

theorem Reported.startPiu {a b c : Bool} {restore : Bool} {s : State} (h : Reported a b c s) :
    Reported a b c (startPiu restore s) :=
  h.of_watch (by cases restore <;> rfl)

theorem beginStart_pins (restore : Bool) (times : StartTimes) (s : State) :
    (beginStart restore times s).smr.pins = s.smr.pins := by
  cases restore with
  | false => rfl
  | true => simp [beginStart, postInterruption]

/-- A whole start reports every condition (R187, R193). -/
theorem reported_start (restore : Bool) (times : StartTimes) {s : State} (hp : s.smr.pins = ⟨true, true⟩) :
    Reported true true true (runSteps (startSteps restore times) s) := by
  have clc := reported_startClc (if restore then .restored else .storeLost) times
    ((beginStart_pins restore times s).trans hp)
  have pay := (clc.startMiu (restore := restore)).startStu (restore := restore)
  have hires := ((pay.startTlc.startTfs (restore := restore)).startFen (restore := restore)).refreshFen
  have all := (((hires.startSau (restore := restore)).startVbu (restore := restore)).startSgu (restore := restore)).startPiu
    (restore := restore)
  exact (all.setSmr rfl).setSmr rfl

/-! ### Supply return and RESTART -/

theorem kept_enterStart (damage : StoreDamage) (stopped : Bool) (s : State) : Kept s (enterStart damage stopped s) :=
  (sound_setCku ..).kept.trans (kept_setSmr ..)

theorem runSteps_take_all (l : List (State → State)) (s : State) : runSteps l s = runSteps (l.take l.length) s := by
  rw [List.take_length]

theorem kept_runStart (restore : Bool) (times : StartTimes) (s : State) :
    Kept s (runSteps (startSteps restore times) s) := by
  rw [runSteps_take_all]
  exact (startSteps_keep restore times).take _ trivial

theorem kept_returnSupply (damage : StoreDamage) (stopped : Bool) (cut : Option StartCut) (s : State) :
    Kept s (returnSupply damage stopped cut s) := by
  refine (kept_enterStart damage stopped s).trans ?_
  cases cut with
  | none => exact kept_runStart ..
  | some c => exact ((startSteps_keep _ _).take c.steps trivial).trans (kept_loseSupply ..)

theorem sound_returnSupply (damage : StoreDamage) (stopped : Bool) (cut : Option StartCut) (s : State) :
    Sound s (returnSupply damage stopped cut s) where
  pending := (kept_returnSupply damage stopped cut s).pending
  account := (kept_returnSupply damage stopped cut s).account
  lists := (kept_returnSupply damage stopped cut s).lists
  quiet := (kept_returnSupply damage stopped cut s).quiet
  notices h := by
    have quiet := (kept_returnSupply damage stopped cut s).quiet h.quiet
    cases cut with
    | none => exact (reported_start (s := enterStart damage stopped s) _ _ rfl).follow quiet
    | some c => exact quiet.follow_down (loseSupply_down ..)

theorem kept_restartBlocks (taken : CalTime) (s : State) : Kept s (restartBlocks taken s) :=
  (kept_startClc ..).trans ((kept_reportWaiting _).trans ((kept_startView _).trans ((sound_startTlc _).kept.trans
    ((kept_startSign _).trans ((sound_startIntercom _).kept.trans (kept_setSmr ..))))))

theorem sound_restartBlocks (taken : CalTime) {s : State} (hp : powered s = true) : Sound s (restartBlocks taken s) where
  pending := (kept_restartBlocks taken s).pending
  account := (kept_restartBlocks taken s).account
  lists := (kept_restartBlocks taken s).lists
  quiet := (kept_restartBlocks taken s).quiet
  notices h := by
    refine Reported.follow ?_ ((kept_restartBlocks taken s).quiet h.quiet)
    have waiting := (reported_startClc .restarted ⟨some taken, s.cku.now⟩ (h.2.2 hp).1).reportWaiting
    exact waiting.startView.startTlc.startSign.startIntercom.setSmr rfl

/-- The part enters STARTING while it runs (R200). -/
theorem sound_starting {s : State} (hp : powered s = true) : Sound s (s.setSmr { s.smr with supply := .starting }) where
  pending := rfl
  account := .of_view rfl
  lists := .of_view rfl
  notices := fun ⟨hl, hr, hrun⟩ => ⟨hl, hr, fun _ => hrun hp⟩

end Sys2Proof.Machine

/-! ## What every step keeps, and the answers to requests -/

namespace Sys2Proof.Machine

/-! ### Every owner, every event, every row -/

/-- What an owner returns is sound, and nothing where it refuses (R184). -/
theorem owned_of_ownerOf {c : Instr} {g : State → Served} (s : State) (h : ownerOf c = some g) : Owned s (g s) := by
  cases c with
  | getNotice => cases h; exact owned_getNotice ..
  | setNoticeEnables _ => cases h; exact owned_setNoticeEnables ..
  | identify => cases h; exact owned_identify ..
  | status => cases h; exact owned_status ..
  | restart => cases h; exact owned_restart ..
  | getTime => cases h; exact owned_getTime ..
  | setTime _ _ _ _ _ _ => cases h; exact owned_setTime ..
  | calBegin => cases h; exact owned_calBegin ..
  | calEnd _ => cases h; exact owned_calEnd ..
  | calAbort => cases h; exact owned_calAbort ..
  | setK _ => cases h; exact owned_setK ..
  | stageTariffSet _ _ _ _ _ _ _ _ _ => cases h; exact owned_stageTariffSet ..
  | stageTariffRemove _ => cases h; exact owned_stageTariffRemove ..
  | stageBandAdd _ _ _ => cases h; exact owned_stageBandAdd ..
  | stageBandRemove _ _ => cases h; exact owned_stageBandRemove ..
  | stageHolidayAdd _ _ _ => cases h; exact owned_stageHolidayAdd ..
  | stageHolidayRemove _ _ _ => cases h; exact owned_stageHolidayRemove ..
  | stageExtraSet _ _ _ _ _ => cases h; exact owned_stageExtraSet ..
  | stageExtraRemove _ => cases h; exact owned_stageExtraRemove ..
  | clearStagedEmpty => cases h; exact owned_clearStagedEmpty ..
  | clearStagedCopyActive => cases h; exact owned_clearStagedCopyActive ..
  | commitTariffs => cases h; exact owned_commitTariffs ..
  | readTariff _ _ => cases h; exact owned_serveRead ..
  | readBand _ _ => cases h; exact owned_serveRead ..
  | readHoliday _ _ => cases h; exact owned_serveRead ..
  | readExtra _ _ => cases h; exact owned_serveRead ..
  | readSet _ => cases h; exact owned_readSet ..
  | hireStart _ _ _ _ => cases h; exact owned_hireStart ..
  | hireStop _ => cases h; exact owned_hireStop ..
  | hireResume _ => cases h; exact owned_hireResume ..
  | setHireTariff _ _ _ => cases h; exact owned_setHireTariff ..
  | addExtra _ _ _ => cases h; exact owned_addExtra ..
  | removeExtra _ _ => cases h; exact owned_removeExtra ..
  | hireAbandon _ => cases h; exact owned_hireAbandon ..
  | hireRead _ => cases h; exact owned_hireRead ..
  | takeView => cases h; exact owned_takeView ..
  | shown _ => cases h; exact owned_shown ..
  | presentCard _ => cases h; exact owned_presentCard ..
  | cancelPayment _ => cases h; exact owned_cancelPayment ..
  | nextAuth => cases h; exact owned_nextAuth ..
  | verdictApprove _ _ => cases h; exact owned_verdictApprove ..
  | verdictDecline _ _ => cases h; exact owned_verdictDecline ..
  | verdictDefer _ _ => cases h; exact owned_verdictDefer ..
  | authRead _ => cases h; exact owned_authRead ..
  | cashTender _ _ => cases h; exact owned_cashTender ..
  | accountTender _ _ _ => cases h; exact owned_accountTender ..
  | deferredOutcome _ _ => cases h; exact owned_deferredOutcome ..
  | deferredRead _ => cases h; exact owned_deferredRead ..
  | shiftOpen _ _ _ _ _ _ => cases h; exact owned_shiftOpen ..
  | shiftBreak => cases h; exact owned_shiftBreak ..
  | shiftResume => cases h; exact owned_shiftResume ..
  | shiftClose => cases h; exact owned_shiftClose ..
  | summaryFetch _ => cases h; exact owned_summaryFetch ..
  | summaryRelease _ => cases h; exact owned_summaryRelease ..
  | totalsRead => cases h; exact owned_totalsRead ..
  | signConfig _ _ _ _ => cases h; exact owned_signConfig ..
  | signText _ => cases h; exact owned_signText ..
  | alertClear => cases h; exact owned_alertClear ..
  | signHold => cases h; exact owned_signHold ..
  | signRelease => cases h; exact owned_signRelease ..
  | lampTest => cases h; exact owned_lampTest ..
  | signRead => cases h; exact owned_signRead ..
  | icFloor _ => cases h; exact owned_icFloor ..
  | icLoop _ => cases h; exact owned_icLoop ..
  | icTestStart => cases h; exact owned_icTestStart ..
  | icTestStop => cases h; exact owned_icTestStop ..
  | icInsertError => cases h; exact owned_icInsertError ..
  | icHold => cases h; exact owned_icHold ..
  | icConfig _ _ _ _ => cases h; exact owned_icConfig ..
  | icRelease => cases h; exact owned_icRelease ..
  | icRead => cases h; exact owned_icRead ..
  | _ => cases h

theorem sound_firstReport (s : State) : Sound s (match firstReport s with
    | some (r, t) => if onsetAhead s then applyReport r t else s
    | none => s) := by
  unfold firstReport
  cases takeFirst FenEvent.report? s.transit.fen with
  | none => exact .refl s
  | some p => exact .ite (fun _ => (sound_setTransit ..).trans (sound_applyReport ..)) fun _ => .refl s

theorem sound_reply (frame : List Byte) (s : State) : Sound s (match goodReplyBody frame with
    | some r => takeReply r s
    | none => missReply s) := by
  cases goodReplyBody frame with
  | none => exact sound_missReply s
  | some r => exact sound_takeReply r s

theorem sound_restartStart {s : State} (hp : powered s = true) : Sound s (match s.smr.restart with
    | some taken => if s.smr.supply = .starting then restartBlocks taken s else s
    | none => s) := by
  split
  · exact .ite (fun _ => sound_restartBlocks _ hp) fun _ => .refl s
  · exact .refl s

theorem sound_of_eventOf {c : Instr} {f : State → State} {s : State} (h : eventOf c = some f) (hp : powered s = true) :
    Sound s (f s) := by
  cases c with
  | wheelPulse => cases h; exact sound_setMiu ..
  | scheduleEvaluation => cases h; exact sound_takeMinuteEvent s
  | fenBandChange => cases h; exact sound_takeFenEvent _ sound_applyBandChange s
  | fenSecondReport => cases h; exact sound_takeFenEvent _ sound_applyReport s
  | displayStaleOnset => cases h; exact sound_firstReport s
  | sauSecondReport => cases h; exact sound_takeSauReport s
  | sealOpened => cases h; exact .ite (fun _ => sound_openSeal s) fun _ => .refl s
  | sealClosed => cases h; exact .ite (fun _ => sound_closeSeal s) fun _ => .refl s
  | sealInitialSample high =>
    cases h
    exact .ite (fun _ => .refl s) fun _ => .ite (fun _ => sound_openSeal s) fun _ => sound_findClosed s
  | composition => cases h; exact sound_takeComposition s
  | confirmation => cases h; exact sound_takeFenEvent _ sound_applyConfirmation s
  | authDeadlineExpiry id => cases h; exact sound_expireEntry id s
  | terminalExchange => cases h; exact sound_beginExchange s
  | exchangeUnanswered => cases h; exact .ite (fun _ => sound_missReply s) fun _ => .refl s
  | terminalLinkLost => cases h; exact .ite (fun _ => sound_missReply s) fun _ => .refl s
  | goodReply frame => cases h; exact .ite (fun _ => sound_reply frame s) fun _ => .refl s
  | foreignStart => cases h; exact sound_setRbc ..
  | busFree cause => cases h; exact sound_freeBus cause s
  | transferBegin => cases h; exact sound_beginTransfer s
  | transferSuccess => cases h; exact sound_transferSuccess s
  | transferFailed => cases h; exact sound_transferFailed s
  | moduleFault => cases h; exact .ite (fun _ => sound_transferFailed s) fun _ => .refl s
  | holdOffExpiry role =>
    cases h
    cases roleOf role with
    | none => exact .refl s
    | some r => exact sound_endHoldOff r s
  | probeTimerExpiry role =>
    cases h
    cases roleOf role with
    | none => exact .refl s
    | some r => exact sound_expireProbe r s
  | arbitrationLost => cases h; exact sound_loseArbitration s
  | arbLimit => cases h; exact .ite (fun _ => sound_loseArbitration s) fun _ => .refl s
  | arbitrationRestart => cases h; exact sound_restartTransfer s
  | clockStall => cases h; exact sound_stallClock s
  | busRecovery => cases h; exact sound_recoverBus s
  | lampTransferEnd => cases h; exact sound_lampTransferEnd s
  | lampTransferRetry => cases h; exact .ite (fun _ => (sound_setRbc s _).trans (sound_beginLamp _)) fun _ => .refl s
  | lampLitEnd => cases h; exact .ite (fun _ => sound_lampRestore s) fun _ => .refl s
  | frontCompletion received => cases h; exact sound_frontCompletion received s
  | frontTalkButton pressed => cases h; exact sound_setPiu rfl rfl rfl
  | rearFrame _ _ _ => cases h; exact sound_hearRear ..
  | damagedFrame _ _ _ => cases h; exact sound_hearRear ..
  | chimeEnd => cases h; exact sound_chimeOver s
  | rearLinkLost => cases h; exact .ite (fun _ => sound_loseRear s) fun _ => .refl s
  | pinHoldExpiry => cases h; exact sound_expirePinHold s
  | remoteLoopOn _ _ _ => cases h; exact sound_rearFrameIf ..
  | remoteLoopOff _ _ _ => cases h; exact sound_rearFrameIf ..
  | announceEnd _ _ _ => cases h; exact sound_rearFrameIf ..
  | testSyncLost _ _ _ => cases h; exact sound_rearFrameIf ..
  | restartStart => cases h; exact sound_restartStart hp
  | _ => cases h

/-- A sound change from a state withstands what every command does. -/
theorem withstands_sound (s₀ : State) : Withstands (Sound s₀) where
  link := fun _ _ hn ho h => h.trans (sound_setClc hn ho)
  reason := fun r _ h => h.trans (sound_raise r _)
  starting := fun _ hp h => h.trans (sound_starting hp)
  owner := fun _ _ s hg _ h => h.trans (owned_of_ownerOf s hg).sound
  event := fun _ _ _ hf hp h => h.trans (sound_of_eventOf hf hp)
  second := fun s h => h.trans (sound_wholeSecond s)
  alarm := fun input s _ h => h.trans (sound_takeAlarm input s)
  level := fun input s h => h.trans (sound_followAlarm input s)
  failure := fun loss s _ h => h.trans (sound_loseSupply loss s)
  pins := fun p _ hp h => h.trans (sound_setPins p hp)
  back := fun damage stopped cut s _ h => h.trans (sound_returnSupply damage stopped cut s)

theorem sound_exec {c : Instr} {s t : State} (e : exec c s = .next t) : Sound s t :=
  (withstands_sound s).exec (.refl s) e

/-! ### A millisecond -/

theorem sound_tickStu (s : State) : Sound s (s.setStu (tickStu s.stu)) :=
  sound_setStu (by simp only [tickStu, List.any_map]; rfl) (List.length_map ..) id

theorem tickPiu_eq (p : Piu) : tickPiu p = { p with
    pinMute := match p.pinMute with
      | .hold n => .hold (n - 1)
      | m => m } := by
  have h : ∀ m, tickPiu { p with pinMute := m } = { p with
      pinMute := match m with
        | .hold n => .hold (n - 1)
        | m => m } := fun m => by cases m <;> rfl
  exact h p.pinMute

/-- On an empty queue a millisecond passes. -/
theorem step_of_empty {s : State} (h : s.pending = []) : step s = .next (tick s) := by
  unfold step
  rw [h]

theorem sound_tickPiu (s : State) : Sound s (s.setPiu (tickPiu s.piu)) := by
  unfold tickPiu
  split
  · exact sound_setPiu rfl rfl rfl
  · exact sound_setPiu rfl rfl rfl

theorem sound_tickSgu (s : State) : Sound s (s.setSgu (tickSgu s.sgu)) := by
  refine sound_setSgu rfl fun h => ?_
  have e : (tickSgu s.sgu).list.map (·.role) = s.sgu.list.map (·.role) := by simp [tickSgu]
  rw [e]
  exact h

theorem sound_tick (s : State) : Sound s (tick s) :=
  .ite (fun _ => (sound_tickStu s).trans ((sound_tickPiu _).trans ((sound_tickSgu _).trans (sound_setRbc ..))))
    fun _ => .refl s

/-- An event taken while the blocks run. -/
theorem exec_event {c : Instr} {f : State → State} {s : State} (h : eventOf c = some f) (hp : powered s = true) :
    exec c s = .next (f s) := (exec_of_eventOf s h).trans (event_powered hp)

/-! ### The obligations -/

theorem accountsHold_step {s t : State} (h : AccountsHold s) (e : step s = .next t) : AccountsHold t := by
  unfold step at e
  split at e
  · obtain rfl : tick s = t := Host.Outcome.next.inj e
    exact (sound_tick s).account h
  · next rest _ => exact (sound_exec e).account (.of_view (s := s) rfl h)

theorem noticesFollow_step {s t : State} (h : NoticesFollow s) (e : step s = .next t) : NoticesFollow t := by
  unfold step at e
  split at e
  · obtain rfl : tick s = t := Host.Outcome.next.inj e
    exact (sound_tick s).notices h
  · exact (sound_exec e).notices (.of_view (s := s) rfl id h)

theorem listsHold_step {s t : State} (h : ListsHold s) (e : step s = .next t) : ListsHold t := by
  unfold step at e
  split at e
  · obtain rfl : tick s = t := Host.Outcome.next.inj e
    exact (sound_tick s).lists h
  · exact (sound_exec e).lists (.of_view (s := s) rfl h)

/-- Settles O58: every step is a sound change. -/
theorem accountsAreKept : Obligations.AccountsAreKept := by
  unfold Obligations.AccountsAreKept
  intro s t hseats hslot hbills hloops e
  exact accountsHold_step ⟨hseats, hslot, hbills, hloops⟩ e

/-- Settles O59: every step is a sound change. -/
theorem noticesAreTruthful : Obligations.NoticesAreTruthful := by
  unfold Obligations.NoticesAreTruthful
  intro s t h e
  exact noticesFollow_step h e

/-- Settles O60: every step is a sound change. -/
theorem listsAreKept : Obligations.ListsAreKept := by
  unfold Obligations.ListsAreKept
  intro s t hroles hviews hqueues e
  exact listsHold_step ⟨hroles, hviews, hqueues⟩ e

/-- Settles O57. -/
theorem resetHasTheInvariants : Obligations.ResetHasTheInvariants := by
  unfold Obligations.ResetHasTheInvariants
  refine ⟨⟨by decide, fun _ => by decide⟩, ⟨fun _ => by decide, fun h => absurd rfl h⟩, ?bills, fun _ => by decide,
    ⟨by decide, ?raised, fun _ => ⟨rfl, by decide, by decide, rfl⟩⟩, show List.Nodup _ by decide,
    ⟨by decide, by decide, by decide⟩, ⟨by decide, by decide, by decide, by decide⟩⟩
  case bills =>
    intro k h e
    cases k <;> cases e
  case raised =>
    intro k hr
    cases k <;> rfl

/-- Settles O2: a sound change keeps the queue. -/
theorem everyStepAnswers : Obligations.EveryStepAnswers := by
  unfold Obligations.EveryStepAnswers
  refine ⟨fun c s => ?answers, fun s hq hp => ?runs, fun s hq hp => ?stands⟩
  case answers =>
    obtain ⟨t, e⟩ := exec_answers c s
    exact ⟨t, e, (sound_exec e).pending⟩
  case runs =>
    rw [step_of_empty hq, tick, if_pos hp, tickPiu_eq]
    rfl
  case stands =>
    rw [step_of_empty hq, tick, if_neg (by rw [hp]; exact nofun)]

/-- Settles O3. -/
theorem requestsAreAnswered : Obligations.RequestsAreAnswered := by
  unfold Obligations.RequestsAreAnswered
  intro c owner s ho
  rw [exec_of_ownerOf s ho]
  refine ⟨fun hl => ⟨_, request_listening hl, ?refused⟩, fun hl => request_stopped hl⟩
  case refused => exact (owned_of_ownerOf s ho).refused

/-- Settles O4. -/
theorem pulseCountsMetres : Obligations.PulseCountsMetres := by
  unfold Obligations.PulseCountsMetres
  intro s hp
  have e : exec .wheelPulse s = .next (s.setMiu (takePulse s.miu)) :=
    exec_event (c := .wheelPulse) rfl hp
  refine ⟨fun hk => ?valid, fun hk => ?clear⟩
  case valid =>
    rw [e, takePulse, if_pos hk]
    rfl
  case clear =>
    rw [e, takePulse, if_neg (by rw [hk]; exact nofun)]
    rfl

end Sys2Proof.Machine

/-! ## The whole second (R3, R11, R13, R109, R123) -/

namespace Sys2Proof.Machine

/-! ### Closing the second -/

theorem closeSecond_of_normal {ended : CalTime} {s : State} (h : ¬ 70 < s.miu.secondCount) :
    closeSecond ended s = issueReport ⟨ended, s.miu.secondCount, .normal⟩ (s.setMiu { s.miu with secondCount := 0 }) := by
  simp [closeSecond, secondMark, h]

theorem closeSecond_of_implausible {ended : CalTime} {s : State} (h : 70 < s.miu.secondCount) :
    closeSecond ended s = raise .implausible
      (issueReport ⟨ended, s.miu.secondCount, .implausible⟩ (s.setMiu { s.miu with secondCount := 0 })) := by
  simp [closeSecond, secondMark, h]

/-- What the MIU's closing of a second writes (R3). -/
theorem closeSecond_writes (ended : CalTime) (s : State) :
    (closeSecond ended s).miu = { s.miu with secondCount := 0 } ∧
      (closeSecond ended s).transit = { s.transit with
        fen := s.transit.fen ++ [.report ⟨ended, s.miu.secondCount, secondMark s.miu.secondCount⟩]
        sau := s.transit.sau ++ [⟨ended, s.miu.secondCount, secondMark s.miu.secondCount⟩] } ∧
      (closeSecond ended s).clc.notices.meter =
        (if 70 < s.miu.secondCount then s.clc.notices.meter.addReason 0 else s.clc.notices.meter) ∧
      (closeSecond ended s).clc.notices.shift = s.clc.notices.shift := by
  by_cases h : 70 < s.miu.secondCount
  · rw [closeSecond_of_implausible h, secondMark, if_pos h, if_pos h]
    exact ⟨rfl, rfl, rfl, rfl⟩
  · rw [closeSecond_of_normal h, secondMark, if_neg h, if_neg h]
    exact ⟨rfl, rfl, rfl, rfl⟩

/-- What it leaves. -/
theorem closeSecond_frame (ended : CalTime) (s : State) :
    (closeSecond ended s).cku = s.cku ∧ (closeSecond ended s).tfs = s.tfs ∧ (closeSecond ended s).fen = s.fen ∧
      (closeSecond ended s).vbu = s.vbu ∧ (closeSecond ended s).stu = s.stu ∧ (closeSecond ended s).tlc = s.tlc ∧
      (closeSecond ended s).sau = s.sau ∧ (closeSecond ended s).sgu = s.sgu ∧ (closeSecond ended s).rbc = s.rbc ∧
      (closeSecond ended s).piu = s.piu ∧ (closeSecond ended s).smr = s.smr ∧ (closeSecond ended s).free = s.free := by
  by_cases h : 70 < s.miu.secondCount
  · rw [closeSecond_of_implausible h]
    exact ⟨rfl, rfl, rfl, rfl, rfl, rfl, rfl, rfl, rfl, rfl, rfl, rfl⟩
  · rw [closeSecond_of_normal h]
    exact ⟨rfl, rfl, rfl, rfl, rfl, rfl, rfl, rfl, rfl, rfl, rfl, rfl⟩

/-! ### The minute event -/

theorem Deferred.ages_iff {now : CalTime} {d : Deferred} :
    d.ages now = true ↔ d.aged = false ∧ d.time.seconds + 259200 < now.seconds := by
  simp only [ages, Bool.and_eq_true, Bool.not_eq_true', decide_eq_true_eq]
  rfl

/-- A minute event marks no entry that is marked already (R109). -/
theorem Deferred.mark_eq (now : CalTime) (d : Deferred) :
    (if d.ages now then { d with aged := true } else d)
      = if d.time.seconds + 259200 < now.seconds then { d with aged := true } else d := by
  simp only [Deferred.ages_iff]
  obtain ⟨id, shift, hire, amount, tip, token, time, aged⟩ := d
  cases aged <;> simp

/-- The deferred list after a minute event, whether an entry ages or not (R109). -/
theorem ageDeferred_stu (now : CalTime) (s : State) : (ageDeferred now s).stu = { s.stu with
    deferred := s.stu.deferred.map fun d => if d.time.seconds + 259200 < now.seconds then { d with aged := true } else d } := by
  simp only [← Deferred.mark_eq]
  unfold ageDeferred
  split
  · rfl
  · next h =>
    have same : s.stu.deferred.map (fun d => if d.ages now then { d with aged := true } else d) = s.stu.deferred := by
      refine (List.map_congr_left fun d hd => ?_).trans (List.map_id _)
      exact if_neg fun ha => h (List.any_eq_true.2 ⟨d, hd, ha⟩)
    rw [same]

theorem ageDeferred_ages {now : CalTime} {s : State} {d : Deferred} (hd : d ∈ s.stu.deferred) (ha : d.ages now = true) :
    (ageDeferred now s).clc.notices.shift = s.clc.notices.shift.addReason 1 := by
  rw [ageDeferred, if_pos (List.any_eq_true.2 ⟨d, hd, ha⟩)]
  rfl

theorem ageDeferred_stands {now : CalTime} {s : State} (h : ∀ d ∈ s.stu.deferred, d.ages now = false) :
    (ageDeferred now s) = s := by
  rw [ageDeferred, if_neg]
  intro ha
  obtain ⟨d, hd, ha⟩ := List.any_eq_true.1 ha
  rw [h d hd] at ha
  exact nomatch ha

theorem ageDeferred_frame (now : CalTime) (s : State) :
    (ageDeferred now s).miu = s.miu ∧ (ageDeferred now s).cku = s.cku ∧ (ageDeferred now s).tfs = s.tfs ∧
      (ageDeferred now s).fen = s.fen ∧ (ageDeferred now s).vbu = s.vbu ∧ (ageDeferred now s).tlc = s.tlc ∧
      (ageDeferred now s).sau = s.sau ∧ (ageDeferred now s).sgu = s.sgu ∧ (ageDeferred now s).rbc = s.rbc ∧
      (ageDeferred now s).piu = s.piu ∧ (ageDeferred now s).smr = s.smr ∧ (ageDeferred now s).transit = s.transit ∧
      (ageDeferred now s).free = s.free ∧ (ageDeferred now s).clc.notices.meter = s.clc.notices.meter := by
  unfold ageDeferred
  split <;> exact ⟨rfl, rfl, rfl, rfl, rfl, rfl, rfl, rfl, rfl, rfl, rfl, rfl, rfl, rfl⟩

/-- A break minute is a write of the live record alone (R123). -/
theorem countBreakMinute_eq (s : State) : countBreakMinute s = s.setSau { s.sau with live := { s.sau.live with
    breakMinutes := if s.sau.shift = .onBreak then satAdd max32 s.sau.live.breakMinutes 1 else s.sau.live.breakMinutes } } := by
  unfold countBreakMinute
  split
  · next h => rw [post_running (by rw [h]; exact nofun)]
  · rfl

/-- What a minute event leaves, with the clock as it stands (R13, R109, R123). -/
theorem minuteEvent_spec (s : State) :
    (minuteEvent s).cku = s.cku ∧ (minuteEvent s).miu = s.miu ∧
      (minuteEvent s).transit = { s.transit with tfs := s.transit.tfs ++ [presentPoint (minuteEvent s)] } ∧
      (minuteEvent s).clc.notices.meter = s.clc.notices.meter ∧ (minuteEvent s).stu = (ageDeferred s.cku.now s).stu ∧
      (minuteEvent s).clc.notices.shift = (ageDeferred s.cku.now s).clc.notices.shift ∧
      (minuteEvent s).sau = { s.sau with live := { s.sau.live with
        breakMinutes := if s.sau.shift = .onBreak then satAdd max32 s.sau.live.breakMinutes 1
          else s.sau.live.breakMinutes } } ∧
      (minuteEvent s).tfs = s.tfs ∧ (minuteEvent s).fen = s.fen ∧ (minuteEvent s).vbu = s.vbu ∧ (minuteEvent s).tlc = s.tlc ∧
      (minuteEvent s).sgu = s.sgu ∧ (minuteEvent s).rbc = s.rbc ∧ (minuteEvent s).piu = s.piu ∧
      (minuteEvent s).smr = s.smr ∧ (minuteEvent s).free = s.free := by
  obtain ⟨hmiu, hcku, htfs, hfen, hvbu, htlc, hsau, hsgu, hrbc, hpiu, hsmr, htransit, hfree, hmeter⟩ :=
    ageDeferred_frame s.cku.now s
  unfold minuteEvent
  rw [countBreakMinute_eq, hsau]
  refine ⟨hcku, hmiu, ?_, hmeter, rfl, rfl, rfl, htfs, hfen, hvbu, htlc, hsgu, hrbc, hpiu, hsmr, hfree⟩
  simp only [State.setTransit_transit, State.setSau_transit, htransit]
  rfl

/-! ### The whole second -/

theorem wholeSecond_at_minute {s : State} (hp : powered s = true) (h : s.cku.now.next.second = 0) :
    wholeSecond s = minuteEvent (closeSecond s.cku.now (advanceClock s)) := by
  rw [wholeSecond, if_pos hp, if_pos (by rw [(closeSecond_frame ..).1]; exact h)]

theorem wholeSecond_between {s : State} (hp : powered s = true) (h : s.cku.now.next.second ≠ 0) :
    wholeSecond s = closeSecond s.cku.now (advanceClock s) := by
  rw [wholeSecond, if_pos hp, if_neg (by rw [(closeSecond_frame ..).1]; exact h)]

/-- Settles O5, at a minute and between two minutes. -/
theorem wholeSecondClosesTheSecond : Obligations.WholeSecondClosesTheSecond := by
  unfold Obligations.WholeSecondClosesTheSecond
  refine fun s => ⟨fun hp => ⟨wholeSecond s, rfl, ?runs⟩, fun hp => ?stopped⟩
  case stopped =>
    show Host.Outcome.next (wholeSecond s) = _
    rw [wholeSecond, if_neg (by rw [hp]; exact nofun)]
    rfl
  case runs =>
    obtain ⟨wmiu, wtransit, wmeter, wshift⟩ := closeSecond_writes s.cku.now (advanceClock s)
    obtain ⟨fcku, ftfs, ffen, fvbu, fstu, ftlc, fsau, fsgu, frbc, fpiu, fsmr, ffree⟩ :=
      closeSecond_frame s.cku.now (advanceClock s)
    by_cases hm : s.cku.now.next.second = 0
    · obtain ⟨hcku, hmiu, htransit, hmeter, hstu, hshift, hsau, htfs, hfen, hvbu, htlc, hsgu, hrbc, hpiu, hsmr, hfree⟩ :=
        minuteEvent_spec (closeSecond s.cku.now (advanceClock s))
      rw [ageDeferred_stu, fstu, fcku] at hstu
      rw [wholeSecond_at_minute hp hm, htransit, wtransit]
      simp only [hm, true_and, and_true, if_true]
      refine ⟨hcku.trans fcku, hmiu.trans wmiu, rfl, rfl, rfl, rfl, hmeter.trans wmeter, hstu, ?ages, ?stands,
        ?_, htfs.trans ftfs, hfen.trans ffen, hvbu.trans fvbu, htlc.trans ftlc, hsgu.trans fsgu, hrbc.trans frbc,
        hpiu.trans fpiu, hsmr.trans fsmr, hfree.trans ffree⟩
      · rintro ⟨d, hd, ha⟩
        rw [hshift, ageDeferred_ages (by rw [fstu]; exact hd) (by rw [fcku]; exact Deferred.ages_iff.2 ha), wshift]
        rfl
      · intro hn
        rw [hshift, ageDeferred_stands fun d hd => ?_, wshift]
        · rfl
        · rw [fstu] at hd
          rw [fcku, Bool.eq_false_iff]
          exact fun ha => hn ⟨d, hd, Deferred.ages_iff.1 ha⟩
      · rw [hsau, fsau]
        rfl
    · rw [wholeSecond_between hp hm, wtransit]
      simp only [hm, false_and, and_false, if_false, false_implies, true_and, not_false_eq_true, true_implies, List.append_nil,
        List.map_id']
      exact ⟨fcku, wmiu, rfl, rfl, rfl, rfl, wmeter, fstu, wshift, fsau, ftfs, ffen, fvbu, ftlc, fsgu, frbc, fpiu, fsmr, ffree⟩

end Sys2Proof.Machine

/-! ## The seal (R7, R9, R10, R39) -/

namespace Sys2Proof.Machine

/-! ### Reasons raised one after the other -/

theorem hireKind_injective {j k : Slot} (h : hireKind j = hireKind k) : j = k := by
  cases j <;> cases k <;> first | rfl | exact nomatch h

theorem Slot.mem_all (k : Slot) : k ∈ Slot.all := by cases k <;> decide

theorem Slot.nodup_all : Slot.all.Nodup := by decide

/-- Reasons raised for the slots of a list write the notices alone. -/
theorem foldl_raise_eq (r : Slot → Reason) (l : List Slot) (s : State) :
    l.foldl (fun t k => raise (r k) t) s = s.setClc (l.foldl (fun t k => raise (r k) t) s).clc := by
  induction l generalizing s with
  | nil => rfl
  | cons k l ih =>
    rw [List.foldl_cons, ih]
    rfl

/-- A kind to which none of the reasons belongs stands. -/
theorem foldl_raise_get_of_ne {r : Slot → Reason} {l : List Slot} {j : NoticeKind} (h : ∀ k ∈ l, j ≠ (r k).kind) (s : State) :
    (l.foldl (fun t k => raise (r k) t) s).clc.notices.get j = s.clc.notices.get j := by
  induction l generalizing s with
  | nil => rfl
  | cons k l ih =>
    rw [List.foldl_cons, ih fun i hi => h i (List.mem_cons_of_mem _ hi)]
    exact raise_get_ne _ _ (h k List.mem_cons_self)

/-- A kind to which one of the reasons belongs takes it once. -/
theorem foldl_raise_get_of_mem {r : Slot → Reason} {l : List Slot} {k : Slot} (hl : l.Nodup) (hk : k ∈ l)
    (hr : ∀ i, (r i).kind = hireKind i) (s : State) :
    (l.foldl (fun t k => raise (r k) t) s).clc.notices.get (hireKind k)
      = (s.clc.notices.get (hireKind k)).addReason (r k).bit := by
  induction l generalizing s with
  | nil => exact absurd hk List.not_mem_nil
  | cons i l ih =>
    obtain ⟨hi, hl⟩ := List.nodup_cons.1 hl
    rw [List.foldl_cons]
    rcases List.mem_cons.1 hk with rfl | hk
    · rw [foldl_raise_get_of_ne fun j hj e => ?_]
      · have e := raise_get_kind (r k) s
        rw [hr k] at e
        exact e
      · rw [hr j] at e
        exact hi (hireKind_injective e ▸ hj)
    · rw [ih hl hk, raise_get_ne]
      rw [hr i]
      exact fun e => hi (hireKind_injective e ▸ hk)

/-! ### The suspension at an opening (R39) -/

theorem suspendRunning_hire (s : State) (k : Slot) : (suspendRunning s).hire k = (s.hire k).map fun h =>
    if h.state = .running then { h with state := .suspended } else h := Four.get_map ..

theorem suspendRunning_hire_running {s : State} {k : Slot} {h : Hire} (he : s.hire k = some h) (hr : h.state = .running) :
    (suspendRunning s).hire k = some { h with state := .suspended } := by
  rw [suspendRunning_hire, he, Option.map_some, if_pos hr]

theorem suspendRunning_hire_other {s : State} {k : Slot} (hn : s.hireState k ≠ some .running) :
    (suspendRunning s).hire k = s.hire k := by
  rw [suspendRunning_hire]
  cases he : s.hire k with
  | none => rfl
  | some h =>
    rw [Option.map_some, if_neg]
    exact fun hr => hn (by rw [State.hireState, he, Option.map_some, hr])

/-- The slots whose hires run. -/
def runningSlots (s : State) : List Slot := Slot.all.filter fun k => s.hireState k = some .running

theorem mem_runningSlots {s : State} {k : Slot} : k ∈ runningSlots s ↔ s.hireState k = some .running := by
  simp [runningSlots, Slot.mem_all]

theorem runningSlots_nodup (s : State) : (runningSlots s).Nodup := Slot.nodup_all.filter _

/-- An opening writes the slots and the hire notices, and causes a composition (R39, R61). -/
theorem sealSuspension_of_running {s : State} (h : runningSlots s ≠ []) : sealSuspension s =
    compose ((suspendRunning s).setClc ((runningSlots s).foldl (fun t k => raise (.suspended k) t) (suspendRunning s)).clc) := by
  rw [← foldl_raise_eq Reason.suspended]
  exact if_neg h

theorem sealSuspension_of_none {s : State} (h : runningSlots s = []) : sealSuspension s = s := if_pos h

/-- A RUNNING hire is suspended with a reason (R39). -/
theorem sealSuspension_running {s : State} {k : Slot} {h : Hire} (he : s.hire k = some h) (hr : h.state = .running) :
    (sealSuspension s).hire k = some { h with state := .suspended } ∧
      (sealSuspension s).clc.notices.get (hireKind k) = (s.clc.notices.get (hireKind k)).addReason 0 := by
  have hk : k ∈ runningSlots s := mem_runningSlots.2 (by rw [State.hireState, he, Option.map_some, hr])
  rw [sealSuspension_of_running (List.ne_nil_of_mem hk)]
  exact ⟨suspendRunning_hire_running he hr,
    foldl_raise_get_of_mem (r := Reason.suspended) (runningSlots_nodup s) hk (fun _ => rfl) (suspendRunning s)⟩

/-- Every other slot stands. -/
theorem sealSuspension_other {s : State} {k : Slot} (hn : s.hireState k ≠ some .running) :
    (sealSuspension s).hire k = s.hire k ∧
      (sealSuspension s).clc.notices.get (hireKind k) = s.clc.notices.get (hireKind k) := by
  by_cases h : runningSlots s = []
  · rw [sealSuspension_of_none h]
    exact ⟨rfl, rfl⟩
  · rw [sealSuspension_of_running h]
    refine ⟨suspendRunning_hire_other hn, foldl_raise_get_of_ne (r := Reason.suspended) (fun j hj e => ?_) (suspendRunning s)⟩
    have ej : k = j := hireKind_injective e
    exact hn (mem_runningSlots.1 (ej ▸ hj))

theorem sealSuspension_frame (s : State) :
    (sealSuspension s).clc.notices.meter = s.clc.notices.meter ∧ (sealSuspension s).miu = s.miu ∧
      (sealSuspension s).sau = s.sau ∧ outsideKept s (sealSuspension s) ∧ (sealSuspension s).tfs = s.tfs ∧
      (sealSuspension s).vbu = s.vbu ∧ (sealSuspension s).stu = s.stu ∧ (sealSuspension s).tlc = s.tlc ∧
      (sealSuspension s).sgu = s.sgu ∧ (sealSuspension s).piu = s.piu := by
  by_cases h : runningSlots s = []
  · rw [sealSuspension_of_none h]
    exact ⟨rfl, rfl, rfl, ⟨rfl, rfl, rfl⟩, rfl, rfl, rfl, rfl, rfl, rfl⟩
  · rw [sealSuspension_of_running h]
    refine ⟨?_, rfl, rfl, ⟨rfl, rfl, rfl⟩, rfl, rfl, rfl, rfl, rfl, rfl⟩
    exact foldl_raise_get_of_ne (r := Reason.suspended) (j := .meter) (fun k _ e => by cases k <;> exact nomatch e)
      (suspendRunning s)

/-! ### Openings and closings (R9, R10) -/

/-- An opening counted at the MIU and posted to a shift that runs (R10). -/
def countedOpening (s : State) : State :=
  (raise .sealOpened (s.setMiu { s.miu with
    sealOpen := true, sealTaken := true, sealCount := satAdd max16 s.miu.sealCount 1 })).setSau
      { s.sau with live := { s.sau.live with sealOpenings := satAdd max16 s.sau.live.sealOpenings 1 } }

theorem openSeal_of_running {s : State} (hc : s.sau.shift ≠ .closed) : openSeal s = sealSuspension (countedOpening s) := by
  rw [openSeal, if_pos (shiftRuns_eq_true_iff.2 hc), post_running (by exact hc)]
  rfl

/-- What an opening of the seal does (R10). -/
theorem openSeal_spec (s : State) :
    (openSeal s).miu = { s.miu with sealOpen := true, sealTaken := true, sealCount := satAdd max16 s.miu.sealCount 1 } ∧
      (openSeal s).clc.notices.meter = s.clc.notices.meter.addReason 1 ∧
      (s.sau.shift ≠ .closed →
        (openSeal s).sau.live.sealOpenings = satAdd max16 s.sau.live.sealOpenings 1 ∧
        (∀ k h, s.hire k = some h → h.state = .running →
          (openSeal s).hire k = some { h with state := .suspended } ∧
            (openSeal s).clc.notices.get (hireKind k) = (s.clc.notices.get (hireKind k)).addReason 0) ∧
        (∀ k, s.hireState k ≠ some .running → (openSeal s).hire k = s.hire k ∧
          (openSeal s).clc.notices.get (hireKind k) = s.clc.notices.get (hireKind k))) ∧
      (s.sau.shift = .closed → (openSeal s).sau = s.sau ∧ (openSeal s).fen = s.fen) ∧
      outsideKept s (openSeal s) ∧ (openSeal s).tfs = s.tfs ∧ (openSeal s).vbu = s.vbu ∧ (openSeal s).stu = s.stu ∧
      (openSeal s).tlc = s.tlc ∧ (openSeal s).sgu = s.sgu ∧ (openSeal s).piu = s.piu := by
  by_cases hc : s.sau.shift = .closed
  · rw [openSeal, if_neg (by rw [shiftRuns_eq_false_iff.2 hc]; exact nofun)]
    exact ⟨rfl, rfl, fun hn => absurd hc hn, fun _ => ⟨rfl, rfl⟩, ⟨rfl, rfl, rfl⟩, rfl, rfl, rfl, rfl, rfl, rfl⟩
  · rw [openSeal_of_running hc]
    obtain ⟨hmeter, hmiu, hsau, hout, htfs, hvbu, hstu, htlc, hsgu, hpiu⟩ := sealSuspension_frame (countedOpening s)
    refine ⟨hmiu, hmeter, fun _ => ⟨congrArg (·.live.sealOpenings) hsau, fun k h he hr => ?_, fun k hn => ?_⟩,
      fun h => absurd h hc, hout, htfs, hvbu, hstu, htlc, hsgu, hpiu⟩
    · obtain ⟨hhire, hnotice⟩ := sealSuspension_running (s := countedOpening s) he hr
      exact ⟨hhire, hnotice.trans (by cases k <;> rfl)⟩
    · obtain ⟨hhire, hnotice⟩ := sealSuspension_other (s := countedOpening s) (k := k) hn
      exact ⟨hhire, hnotice.trans (by cases k <;> rfl)⟩

theorem abortRun_of_run {s : State} (h : s.miu.calActive = true) :
    abortRun s = raise .calAborted (s.setMiu { s.miu with calActive := false, rawPulses := 0 }) := if_pos h

theorem abortRun_of_none {s : State} (h : s.miu.calActive = false) : abortRun s = s :=
  if_neg (by rw [h]; exact nofun)

theorem exec_sealClosed {s : State} (hp : powered s = true) (ht : s.miu.sealTaken = true) (ho : s.miu.sealOpen = true) :
    exec .sealClosed s = .next (closeSeal s) := by
  rw [exec_event (c := .sealClosed) rfl hp, if_pos ⟨ht, ho⟩]

theorem exec_sealFound {s : State} (hp : powered s = true) (ht : s.miu.sealTaken = false) :
    exec (.sealInitialSample false) s = .next (findClosed s) := by
  rw [exec_event (c := .sealInitialSample false) rfl hp, if_neg (by rw [ht]; exact nofun), if_neg nofun]

/-- Settles O7. -/
theorem sealOpeningsAndClosings : Obligations.SealOpeningsAndClosings := by
  unfold Obligations.SealOpeningsAndClosings
  refine ⟨fun s c hp hc => ⟨openSeal s, ?opens, openSeal_spec s⟩, fun s hp => ⟨?closes, ?closesRun, ?finds, ?findsRun⟩⟩
  case opens =>
    rcases hc with ⟨rfl, ht, ho⟩ | ⟨rfl, ht⟩
    · rw [exec_event (c := .sealOpened) rfl hp, if_pos ⟨ht, by rw [ho]; exact nofun⟩]
    · rw [exec_event (c := .sealInitialSample true) rfl hp, if_neg (by rw [ht]; exact nofun), if_pos rfl]
  case closes =>
    intro ht ho ha
    rw [exec_sealClosed hp ht ho, closeSeal, abortRun_of_none (by exact ha)]
  case closesRun =>
    intro ht ho ha
    rw [exec_sealClosed hp ht ho, closeSeal, abortRun_of_run (by exact ha)]
    rfl
  case finds =>
    intro ht ha
    rw [exec_sealFound hp ht, findClosed, abortRun_of_none (by exact ha)]
  case findsRun =>
    intro ht ha
    rw [exec_sealFound hp ht, findClosed, abortRun_of_run (by exact ha)]
    rfl

end Sys2Proof.Machine

/-! ## Time requests and the schedule (R14, R15, R26 to R29) -/

namespace Sys2Proof.Machine

/-! ### The scheduled tariff (R26) -/

/-- The last of a list in ascending order is not below any of it. -/
theorem le_of_getLast? {α : Type} {r : α → α → Prop} {l : List α} (hl : l.Pairwise r) {z : α} (hz : l.getLast? = some z) {b : α}
    (hb : b ∈ l) : b = z ∨ r b z := by
  obtain ⟨init, rfl⟩ := List.getLast?_eq_some_iff.1 hz
  rcases List.mem_append.1 hb with hb | hb
  · exact .inr ((List.pairwise_append.1 hl).2.2 b hb z (List.mem_singleton_self z))
  · exact .inl (List.mem_singleton.1 hb)

/-- The bands that qualify at an evaluation point (R26). -/
theorem mem_qualifying {set : TariffSet} {p : EvalPoint} {b : Band} :
    b ∈ (set.bands.filter fun b => dayIn b.days p.dayClass && b.start ≤ p.minute) ↔
      b ∈ set.bands ∧ dayIn b.days p.dayClass = true ∧ b.start ≤ p.minute := by
  simp [List.mem_filter]

/-- Settles O9: the last qualifying band in band order is the one of latest start. -/
theorem scheduledTariffIsTheLatestBand : Obligations.ScheduledTariffIsTheLatestBand := by
  unfold Obligations.ScheduledTariffIsTheLatestBand
  intro set p hsorted
  refine ⟨fun b hb hday hstart hlatest => ?latest, fun hnone => ?none⟩
  case latest =>
    have hmem := mem_qualifying.2 ⟨hb, hday, hstart⟩
    unfold scheduledAt
    split
    · next z hz =>
      obtain ⟨hzb, hzday, hzstart⟩ := mem_qualifying.1 (List.mem_of_getLast? hz)
      have hle : b.start ≤ z.start := (le_of_getLast? (hsorted.filter _) hz hmem).elim (fun e => e ▸ le_rfl) id
      rcases hlatest z hzb hzday hzstart with rfl | hlt
      · rfl
      · omega
    · next hz => exact absurd (List.getLast?_eq_none_iff.1 hz ▸ hmem) List.not_mem_nil
  case none =>
    unfold scheduledAt
    split
    · next z hz =>
      obtain ⟨hzb, hzday, hzstart⟩ := mem_qualifying.1 (List.mem_of_getLast? hz)
      exact absurd hzstart (hnone z hzb hzday)
    · rfl

/-! ### The evaluation (R26, R27) -/

theorem evaluateSchedule_same {s : State} (h : scheduledAt (activeSet s) s.tfs.point = s.tfs.scheduled) :
    evaluateSchedule s = s := if_pos h

theorem evaluateSchedule_changes {s : State} (h : scheduledAt (activeSet s) s.tfs.point ≠ s.tfs.scheduled) :
    evaluateSchedule s = handLabel (toFen (.bandChange (scheduledAt (activeSet s) s.tfs.point)) (raise .bandChange
      (s.setTfs { s.tfs with scheduled := scheduledAt (activeSet s) s.tfs.point }))) := if_neg h

/-- The minute events that the TFS has not taken stand. -/
theorem evaluateSchedule_transit_tfs (s : State) : (evaluateSchedule s).transit.tfs = s.transit.tfs := by
  unfold evaluateSchedule
  dsimp only
  split <;> rfl

/-- The label handed to the SGU is that of the scheduled tariff, and the image follows it (R29, R133). -/
theorem handLabel_sgu (s : State) :
    (handLabel s).sgu.label = scheduledLabel (handLabel s) ∧ (handLabel s).sgu.desired = desiredImage (handLabel s) :=
  ⟨rfl, rfl⟩

/-- A change of the scheduled tariff: METER BAND_CHANGE, an event to the FEN, the label to the SGU (R27, R29). -/
theorem evaluateSchedule_changes_spec {s : State} (h : scheduledAt (activeSet s) s.tfs.point ≠ s.tfs.scheduled) :
    (evaluateSchedule s).tfs = { s.tfs with scheduled := scheduledAt (activeSet s) s.tfs.point } ∧
      (evaluateSchedule s).transit = { s.transit with
        fen := s.transit.fen ++ [.bandChange (scheduledAt (activeSet s) s.tfs.point)] } ∧
      (evaluateSchedule s).clc = { s.clc with notices := s.clc.notices.set .meter (s.clc.notices.meter.addReason 5) } ∧
      (evaluateSchedule s).sgu.label = scheduledLabel (evaluateSchedule s) ∧
      (evaluateSchedule s).sgu.desired = desiredImage (evaluateSchedule s) := by
  rw [evaluateSchedule_changes h]
  obtain ⟨hlabel, hdesired⟩ := handLabel_sgu (toFen (.bandChange (scheduledAt (activeSet s) s.tfs.point)) (raise .bandChange
    (s.setTfs { s.tfs with scheduled := scheduledAt (activeSet s) s.tfs.point })))
  exact ⟨rfl, rfl, rfl, hlabel, hdesired⟩

/-- Settles O10. -/
theorem minuteEventEvaluatesTheSchedule : Obligations.MinuteEventEvaluatesTheSchedule := by
  unfold Obligations.MinuteEventEvaluatesTheSchedule
  intro s p rest hp hfirst
  have taken : exec .scheduleEvaluation s = .next (evaluateSchedule
      ((s.setTransit { s.transit with tfs := rest }).setTfs { s.tfs with point := p })) := by
    rw [exec_event (c := .scheduleEvaluation) rfl hp, takeMinuteEvent, hfirst]
  refine ⟨fun hsame => ?same, fun hne => ?changes⟩
  case same =>
    have stands := evaluateSchedule_same (s := (s.setTransit { s.transit with tfs := rest }).setTfs
      { s.tfs with point := p }) hsame
    rw [taken, stands]
  case changes =>
    obtain ⟨htfs, htransit, hclc, hlabel, hdesired⟩ := evaluateSchedule_changes_spec
      (s := (s.setTransit { s.transit with tfs := rest }).setTfs { s.tfs with point := p }) hne
    refine ⟨_, taken, htfs, htransit, hclc, hlabel, hdesired, ?_, ?_, ?_, ?_, ?_, ?_, ?_⟩
    · rw [evaluateSchedule_fen]; rfl
    · rw [evaluateSchedule_miu]; rfl
    · rw [evaluateSchedule_vbu]; rfl
    · rw [evaluateSchedule_sau]; rfl
    · rw [evaluateSchedule_cku]; rfl
    · rw [evaluateSchedule_rbc]; rfl
    · rw [evaluateSchedule_smr]; rfl

/-! ### GET_TIME and SET_TIME (R14, R15, R28) -/

theorem serveSetTime_running {t : CalTime} {s : State} (h : s.sau.shift ≠ .closed) : serveSetTime t s = refuse .notAllowed s :=
  if_pos (shiftRuns_eq_true_iff.2 h)

theorem serveSetTime_noTime {t : CalTime} {s : State} (h : s.sau.shift = .closed) (ht : t.inRange = false) :
    serveSetTime t s = refuse .badField s := by
  simp [serveSetTime, shiftRuns_eq_false_iff.2 h, ht]

/-- The part with the time set and its evaluation point taken from it (R14, R28). -/
def withTime (t : CalTime) (s : State) : State :=
  (s.setCku ⟨t, true⟩).setTfs { s.tfs with point := presentPoint (s.setCku ⟨t, true⟩) }

theorem serveSetTime_sets {t : CalTime} {s : State} (h : s.sau.shift = .closed) (ht : t.inRange = true) :
    serveSetTime t s = served [] (evaluateSchedule (withTime t s)) := by
  simp only [serveSetTime, shiftRuns_eq_false_iff.2 h, ht, Bool.false_eq_true, not_true_eq_false, if_false]
  rfl

/-- Settles O8. -/
theorem timeRequests : Obligations.TimeRequests := by
  unfold Obligations.TimeRequests
  intro s hl
  refine ⟨request_of_served hl rfl, ?sets, ?running, ?noTime⟩
  case sets =>
    intro y mo d h mi se hc ht
    refine ⟨_, request_of_served hl (serveSetTime_sets hc ht), rfl, ?_, ?_, ?_, ?_, ?_, ?_, ?_, ?_⟩
    · rw [answered_cku, evaluateSchedule_cku]
      rfl
    · rw [answered_tfs, evaluateSchedule_tfs]
      rfl
    · rw [answered_tfs, evaluateSchedule_tfs]
      rfl
    · rw [answered_transit, evaluateSchedule_transit_tfs]
      rfl
    · rw [answered_miu, evaluateSchedule_miu]
      rfl
    · rw [answered_fen, evaluateSchedule_fen]
      rfl
    · rw [answered_sau, evaluateSchedule_sau]
      rfl
    · rw [answered_stu, evaluateSchedule_stu]
      rfl
  case running =>
    intro y mo d h mi se hr
    exact request_of_refuse hl (serveSetTime_running hr)
  case noTime =>
    intro y mo d h mi se hc ht
    exact request_of_refuse hl (serveSetTime_noTime hc ht)

end Sys2Proof.Machine

/-! ## Staging of tariffs and extras (R17, R18, R22, R23)

Tariff records and catalogue entries are written into a list ascending by number and found by it; `find?_write` says what is
found after a write, once for both. -/

namespace Sys2Proof.Machine

/-! ### A list written under a key -/

/-- A filter that lets through all that is looked for leaves what is found. -/
theorem find?_filter_of_imp {α : Type} {p q : α → Bool} (h : ∀ y, q y = true → p y = true) (l : List α) :
    (l.filter p).find? q = l.find? q := by
  rw [List.find?_filter]
  congr 1
  funext y
  cases hq : q y with
  | false => simp
  | true => simp [h y hq]

/-- A filter that lets through nothing that is looked for leaves none. -/
theorem find?_filter_eq_none {α : Type} {p q : α → Bool} (h : ∀ y, p y = true → q y = false) (l : List α) :
    (l.filter p).find? q = none := by
  rw [List.find?_eq_none]
  intro y hy
  rw [h y (List.mem_filter.1 hy).2]
  exact nofun

/-- After a write under its key a record is found there, and under any other key what was found before. -/
theorem find?_write {α : Type} (key : α → Nat) (x : α) (l : List α) (m : Nat) :
    ((l.filter fun y => key y < key x) ++ x :: l.filter fun y => key x < key y).find? (fun y => key y == m)
      = if m = key x then some x else l.find? fun y => key y == m := by
  rw [List.find?_append, List.find?_cons]
  by_cases h : m = key x
  · have below : (l.filter fun y => key y < key x).find? (fun y => key y == m) = none :=
      find?_filter_eq_none (fun y hy => by rw [decide_eq_true_eq] at hy; rw [beq_eq_false_iff_ne]; omega) l
    rw [below, if_pos h, h, beq_self_eq_true]
    rfl
  · rw [if_neg h, beq_eq_false_iff_ne.2 fun e => h e.symm]
    rcases Nat.lt_or_gt_of_ne h with hlt | hgt
    · have above : (l.filter fun y => key x < key y).find? (fun y => key y == m) = none :=
        find?_filter_eq_none (fun y hy => by rw [decide_eq_true_eq] at hy; rw [beq_eq_false_iff_ne]; omega) l
      dsimp only
      rw [above, Option.or_none]
      exact find?_filter_of_imp (fun y hy => by rw [beq_iff_eq] at hy; rw [decide_eq_true_eq]; omega) l
    · have below : (l.filter fun y => key y < key x).find? (fun y => key y == m) = none :=
        find?_filter_eq_none (fun y hy => by rw [decide_eq_true_eq] at hy; rw [beq_eq_false_iff_ne]; omega) l
      dsimp only
      rw [below, Option.none_or]
      exact find?_filter_of_imp (fun y hy => by rw [beq_iff_eq] at hy; rw [decide_eq_true_eq]; omega) l

theorem tariff?_writeTariff (t : Tariff) (set : TariffSet) (m : Nat) :
    { set with tariffs := writeTariff t set.tariffs }.tariff? m = if m = t.number then some t else set.tariff? m :=
  find?_write Tariff.number t set.tariffs m

theorem extra?_writeExtra (e : ExtraEntry) (set : TariffSet) (m : Nat) :
    { set with extras := writeExtra e set.extras }.extra? m = if m = e.code then some e else set.extra? m :=
  find?_write ExtraEntry.code e set.extras m

/-! ### STAGE_TARIFF -/

theorem serveStageTariffSet_writes {t : Tariff} (s : State) (h : t.inRange = true) : serveStageTariffSet t s =
    served (be 4 t.sharedStep) (s.setStaged { s.tfs.staged with tariffs := writeTariff t s.tfs.staged.tariffs }) := if_pos h

/-- Settles O11. -/
theorem stagedTariffIsWritten : Obligations.StagedTariffIsWritten := by
  unfold Obligations.StagedTariffIsWritten
  intro s n ff sa sd sw cr sp mf label hl hr
  refine ⟨_, request_of_served hl (serveStageTariffSet_writes s hr), rfl, ?found, fun m hm => ?others, rfl, rfl, rfl, rfl, rfl,
    rfl, rfl, rfl, rfl⟩
  case found => exact (tariff?_writeTariff _ s.tfs.staged n).trans (if_pos rfl)
  case others => exact (tariff?_writeTariff _ s.tfs.staged m).trans (if_neg hm)

theorem serveStageTariffRemove_range {s : State} {n : Nat} (h : n < 1 ∨ 8 < n) :
    serveStageTariffRemove n s = refuse .badField s := by
  simp [serveStageTariffRemove, within_eq_false_iff.2 h]

theorem serveStageTariffRemove_notStaged {s : State} {n : Nat} (hn : 1 ≤ n ∧ n ≤ 8) (h : s.tfs.staged.tariff? n = none) :
    serveStageTariffRemove n s = refuse .notFound s := by
  simp [serveStageTariffRemove, within_eq_true_iff.2 hn, h]

theorem serveStageTariffRemove_removes {s : State} {n : Nat} (hn : 1 ≤ n ∧ n ≤ 8) (h : s.tfs.staged.tariff? n ≠ none) :
    serveStageTariffRemove n s = served (absentField 4)
      (s.setStaged { s.tfs.staged with tariffs := s.tfs.staged.tariffs.filter fun t => t.number != n }) := by
  simp [serveStageTariffRemove, within_eq_true_iff.2 hn, h]

/-- Settles O12. -/
theorem stagedTariffIsRemoved : Obligations.StagedTariffIsRemoved := by
  unfold Obligations.StagedTariffIsRemoved
  intro s n hl
  refine ⟨fun h => ?range, fun hlo hhi h => ?notStaged, fun hlo hhi h => ?removes⟩
  case range => exact request_of_refuse hl (serveStageTariffRemove_range h)
  case notStaged => exact request_of_refuse hl (serveStageTariffRemove_notStaged ⟨hlo, hhi⟩ h)
  case removes => exact request_of_served hl (serveStageTariffRemove_removes ⟨hlo, hhi⟩ h)

/-! ### STAGE_EXTRA and CLEAR_STAGED -/

theorem serveStageExtraSet_writes (s : State) {code kind amount most : Nat} {label : List Byte} {k : ExtraKind}
    (hk : extraKindOf kind = some k) (hc : 1 ≤ code ∧ code ≤ 8) (ha : 1 ≤ amount ∧ amount ≤ 50000) (hm : 1 ≤ most ∧ most ≤ 8)
    (hlabel : labelOk label = true) : serveStageExtraSet code kind amount most label s = served []
      (s.setStaged { s.tfs.staged with extras := writeExtra ⟨code, k, amount, most, label⟩ s.tfs.staged.extras }) := by
  simp [serveStageExtraSet, hk, within_eq_true_iff.2 hc, within_eq_true_iff.2 ha, within_eq_true_iff.2 hm, hlabel]

theorem serveStageExtraRemove_removes {s : State} {code : Nat} (hc : 1 ≤ code ∧ code ≤ 8)
    (h : s.tfs.staged.extra? code ≠ none) : serveStageExtraRemove code s = served []
      (s.setStaged { s.tfs.staged with extras := s.tfs.staged.extras.filter fun e => e.code != code }) := by
  simp [serveStageExtraRemove, within_eq_true_iff.2 hc, h]

theorem serveClearStagedCopyActive_copies {s : State} (h : s.tfs.valid = true) :
    serveClearStagedCopyActive s = served [] (s.setStaged s.tfs.active) := if_pos h

theorem serveClearStagedCopyActive_invalid {s : State} (h : s.tfs.valid = false) :
    serveClearStagedCopyActive s = refuse .notAllowed s := if_neg (by rw [h]; exact nofun)

/-- Settles O15. -/
theorem extrasAndClearingAreStaged : Obligations.ExtrasAndClearingAreStaged := by
  unfold Obligations.ExtrasAndClearingAreStaged
  intro s hl
  refine ⟨?set, ?remove, request_of_served hl rfl, fun h => ?copies, fun h => ?invalid⟩
  case set =>
    intro code kind amount most label k hk hclo hchi halo hahi hmlo hmhi hlabel
    refine ⟨_, request_of_served hl (serveStageExtraSet_writes s hk ⟨hclo, hchi⟩ ⟨halo, hahi⟩ ⟨hmlo, hmhi⟩ hlabel), rfl,
      ?found, fun c hc => ?others, rfl⟩
    case found => exact (extra?_writeExtra _ s.tfs.staged code).trans (if_pos rfl)
    case others => exact (extra?_writeExtra _ s.tfs.staged c).trans (if_neg hc)
  case remove =>
    intro code hlo hhi h
    exact request_of_served hl (serveStageExtraRemove_removes ⟨hlo, hhi⟩ h)
  case copies => exact request_of_served hl (serveClearStagedCopyActive_copies h)
  case invalid => exact request_of_refuse hl (serveClearStagedCopyActive_invalid h)

end Sys2Proof.Machine

/-! ## Staging of bands (R19, R20) -/

namespace Sys2Proof.Machine

/-! ### Band order -/

theorem Band.before_iff {a b : Band} :
    a.before b = true ↔ a.start < b.start ∨ a.start = b.start ∧ firstDay a.days < firstDay b.days := by
  simp [Band.before]

/-- The order of the list of bands (section 2.1). -/
def Band.Below (a b : Band) : Prop := a.start < b.start ∨ a.start = b.start ∧ firstDay a.days < firstDay b.days

theorem Band.Below.trans {a b c : Band} (h : a.Below b) (g : b.Below c) : a.Below c := by
  unfold Band.Below at *
  omega

theorem sameKey_iff {days : Byte} {start : Nat} {b : Band} : b.sameKey days start = true ↔ b.start = start ∧ b.days = days := by
  simp [Band.sameKey]

/-- The first day class of a day set that is not empty is one of its own. -/
theorem firstDay_mem {days : Byte} (h : days ≠ 0) : firstDay days < 8 ∧ days.getLsbD (firstDay days) = true := by
  have some_day : ∃ j ∈ List.range 8, days.getLsbD j = true := by
    by_contra hn
    refine h (BitVec.eq_of_getLsbD_eq fun i hi => ?_)
    simp only [BitVec.ofNat_eq_ofNat, BitVec.getLsbD_zero]
    by_contra hb
    exact hn ⟨i, List.mem_range.2 hi, by simpa using hb⟩
  unfold firstDay
  cases hf : (List.range 8).find? fun j => days.getLsbD j with
  | none =>
    obtain ⟨j, hj, hb⟩ := some_day
    exact absurd hb (by simpa using List.find?_eq_none.1 hf j hj)
  | some j => exact ⟨List.mem_range.1 (List.mem_of_find?_eq_some hf), by simpa using List.find?_some hf⟩

theorem firstDay_zero : firstDay 0 = 8 := by decide

/-- Two day sets with no day class in common have other first day classes, unless both are empty. -/
theorem firstDay_ne {a b : Byte} (hb : b ≠ 0) (h : a &&& b = 0) : firstDay a ≠ firstDay b := by
  obtain ⟨hlt, hbit⟩ := firstDay_mem hb
  intro e
  by_cases ha : a = 0
  · rw [ha, firstDay_zero] at e
    omega
  · have hboth : (a &&& b).getLsbD (firstDay b) = true := by
      rw [BitVec.getLsbD_and, hbit, ← e, (firstDay_mem ha).2]
      rfl
    rw [h] at hboth
    simp at hboth

/-- Of two bands one comes first, unless they share a start minute and a day class. -/
theorem Band.below_of_not_before {a b : Band} (hb : b.days ≠ 0) (hd : a.start = b.start → a.days &&& b.days = 0)
    (h : a.before b = false) : b.Below a := by
  rw [← Bool.not_eq_true, Band.before_iff] at h
  unfold Band.Below
  by_cases hs : a.start = b.start
  · have := firstDay_ne hb (hd hs)
    omega
  · omega

/-- In a sorted list the bands before a new one come first. -/
theorem filter_before_append {l : List Band} (hl : l.Pairwise Band.Below) (b : Band) :
    (l.filter fun x => x.before b) ++ (l.filter fun x => !x.before b) = l := by
  induction l with
  | nil => rfl
  | cons x l ih =>
    obtain ⟨hx, hl⟩ := List.pairwise_cons.1 hl
    by_cases hb : x.before b = true
    · rw [List.filter_cons_of_pos (p := fun x => Band.before x b) hb,
        List.filter_cons_of_neg (p := fun x => !Band.before x b) (by rw [hb]; exact nofun), List.cons_append, ih hl]
    · have later : ∀ y ∈ x :: l, ¬ y.before b = true := by
        rintro y hy hyb
        rcases List.mem_cons.1 hy with rfl | hy
        · exact hb hyb
        · exact hb (Band.before_iff.2 ((hx y hy).trans (Band.before_iff.1 hyb)))
      rw [List.filter_eq_nil_iff.2 later, List.filter_eq_self.2 fun y hy => by rw [Bool.eq_false_iff.2 (later y hy)]; rfl]
      rfl

/-- A new band goes in between, and the list stays sorted (R19). -/
theorem pairwise_insert {l : List Band} {b : Band} (hl : l.Pairwise Band.Below) (hb : b.days ≠ 0)
    (hd : ∀ x ∈ l, x.start = b.start → x.days &&& b.days = 0) :
    ((l.filter fun x => x.before b) ++ b :: l.filter fun x => !x.before b).Pairwise Band.Below := by
  have below : ∀ x ∈ l.filter fun x => x.before b, x.Below b := fun x hx => Band.before_iff.1 (List.mem_filter.1 hx).2
  have above : ∀ x ∈ l.filter fun x => !x.before b, b.Below x := fun x hx => by
    obtain ⟨hm, hn⟩ := List.mem_filter.1 hx
    exact Band.below_of_not_before hb (hd x hm) (by simpa using hn)
  refine List.pairwise_append.2 ⟨hl.filter _, List.pairwise_cons.2 ⟨above, hl.filter _⟩, fun x hx y hy => ?_⟩
  rcases List.mem_cons.1 hy with rfl | hy
  · exact below x hx
  · exact (below x hx).trans (above y hy)

/-- A band replaced in place keeps its start and its days. -/
theorem pairwise_replace {l : List Band} (hl : l.Pairwise Band.Below) (p : Band → Prop) [DecidablePred p] (tariff : Nat) :
    (l.map fun x => if p x then { x with tariff := tariff } else x).Pairwise Band.Below := by
  refine List.pairwise_map.2 (hl.imp fun {a b} h => ?_)
  have key : ∀ x : Band, (if p x then { x with tariff := tariff } else x).start = x.start ∧
      (if p x then { x with tariff := tariff } else x).days = x.days := fun x => by split <;> exact ⟨rfl, rfl⟩
  unfold Band.Below
  rw [(key a).1, (key a).2, (key b).1, (key b).2]
  exact h

/-! ### STAGE_BAND ADD (R19) -/

/-- The fields of STAGE_BAND ADD are in range. -/
def bandFieldsOk (b : Band) : Prop := b.days ≠ 0 ∧ b.start ≤ 1439 ∧ 1 ≤ b.tariff ∧ b.tariff ≤ 8

theorem bandFields_reject {b : Band} : (b.days = 0 ∨ 1439 < b.start ∨ ¬ within 1 8 b.tariff = true) ↔ ¬ bandFieldsOk b := by
  rw [bandFieldsOk, within_eq_true_iff]
  by_cases h : b.days = 0
  · simp [h]
  · simp only [h, ne_eq, not_false_eq_true, true_and, false_or]
    omega

theorem serveStageBandAdd_fields {b : Band} (s : State) (h : ¬ bandFieldsOk b) : serveStageBandAdd b s = refuse .badField s :=
  if_pos (bandFields_reject.2 h)

theorem serveStageBandAdd_replaces {b : Band} {s : State} (hf : bandFieldsOk b)
    (h : ∃ x ∈ s.tfs.staged.bands, x.start = b.start ∧ x.days = b.days) :
    serveStageBandAdd b s = served
      (be 1 ((s.tfs.staged.bands.map fun x => if x.sameKey b.days b.start then { x with tariff := b.tariff } else x).findIdx
        (Band.sameKey b.days b.start)))
      (s.setStaged { s.tfs.staged with
        bands := s.tfs.staged.bands.map fun x => if x.sameKey b.days b.start then { x with tariff := b.tariff } else x }) := by
  have same : s.tfs.staged.bands.any (Band.sameKey b.days b.start) = true := by
    obtain ⟨x, hx, hk⟩ := h
    exact List.any_eq_true.2 ⟨x, hx, sameKey_iff.2 hk⟩
  exact (if_neg fun hr => bandFields_reject.1 hr hf).trans (if_pos same)

theorem not_any_sameKey {l : List Band} {days : Byte} {start : Nat} (h : ∀ x ∈ l, ¬ (x.start = start ∧ x.days = days)) :
    l.any (Band.sameKey days start) = false := by
  rw [List.any_eq_false]
  exact fun x hx hk => h x hx (sameKey_iff.1 hk)

theorem serveStageBandAdd_overlap {b : Band} {s : State} (hf : bandFieldsOk b)
    (hn : ∀ x ∈ s.tfs.staged.bands, ¬ (x.start = b.start ∧ x.days = b.days))
    (h : ∃ x ∈ s.tfs.staged.bands, x.start = b.start ∧ x.days &&& b.days ≠ 0) :
    serveStageBandAdd b s = refuse .badField s := by
  have overlapping : (s.tfs.staged.bands.any fun x => x.start == b.start && daysOverlap x.days b.days) = true := by
    obtain ⟨x, hx, hs, hd⟩ := h
    exact List.any_eq_true.2 ⟨x, hx, by simpa [hs, daysOverlap] using hd⟩
  exact (if_neg fun hr => bandFields_reject.1 hr hf).trans
    ((if_neg (by rw [not_any_sameKey hn]; exact nofun)).trans (if_pos overlapping))

theorem not_any_overlap {l : List Band} {b : Band} (h : ∀ x ∈ l, x.start = b.start → x.days &&& b.days = 0) :
    (l.any fun x => x.start == b.start && daysOverlap x.days b.days) = false := by
  rw [List.any_eq_false]
  intro x hx hk
  simp only [daysOverlap, Bool.and_eq_true, beq_iff_eq, bne_iff_ne] at hk
  exact hk.2 (h x hx hk.1)

theorem serveStageBandAdd_full {b : Band} {s : State} (hf : bandFieldsOk b)
    (hn : ∀ x ∈ s.tfs.staged.bands, ¬ (x.start = b.start ∧ x.days = b.days))
    (hd : ∀ x ∈ s.tfs.staged.bands, x.start = b.start → x.days &&& b.days = 0) (hl : 16 ≤ s.tfs.staged.bands.length) :
    serveStageBandAdd b s = refuse .full s :=
  (if_neg fun hr => bandFields_reject.1 hr hf).trans ((if_neg (by rw [not_any_sameKey hn]; exact nofun)).trans
    ((if_neg (by rw [not_any_overlap hd]; exact nofun)).trans (if_pos hl)))

theorem serveStageBandAdd_inserts {b : Band} {s : State} (hf : bandFieldsOk b)
    (hn : ∀ x ∈ s.tfs.staged.bands, ¬ (x.start = b.start ∧ x.days = b.days))
    (hd : ∀ x ∈ s.tfs.staged.bands, x.start = b.start → x.days &&& b.days = 0) (hl : s.tfs.staged.bands.length < 16) :
    serveStageBandAdd b s = served
      (be 1 (((s.tfs.staged.bands.filter fun x => x.before b) ++ b :: s.tfs.staged.bands.filter fun x => !x.before b).findIdx
        (Band.sameKey b.days b.start)))
      (s.setStaged { s.tfs.staged with
        bands := (s.tfs.staged.bands.filter fun x => x.before b) ++ b :: s.tfs.staged.bands.filter fun x => !x.before b }) :=
  (if_neg fun hr => bandFields_reject.1 hr hf).trans ((if_neg (by rw [not_any_sameKey hn]; exact nofun)).trans
    ((if_neg (by rw [not_any_overlap hd]; exact nofun)).trans (if_neg (Nat.not_le.2 hl))))

/-- The index of a new band is the number of bands before it. -/
theorem findIdx_inserted {before after : List Band} {b : Band}
    (h : ∀ x ∈ before, ¬ (x.start = b.start ∧ x.days = b.days)) :
    (before ++ b :: after).findIdx (Band.sameKey b.days b.start) = before.length := by
  induction before with
  | nil => simp [List.findIdx_cons, Band.sameKey]
  | cons x before ih =>
    have hx : x.sameKey b.days b.start = false := by
      rw [← Bool.not_eq_true, sameKey_iff]
      exact h x List.mem_cons_self
    rw [List.cons_append, List.findIdx_cons, hx, ih fun y hy => h y (List.mem_cons_of_mem _ hy)]
    rfl

/-- The index of a band that is replaced is its place in the list. -/
theorem findIdx_replaced {l : List Band} {days : Byte} {start tariff : Nat} (h : ∃ x ∈ l, x.start = start ∧ x.days = days) :
    ∃ b, l[(l.map fun x => if x.sameKey days start then { x with tariff := tariff } else x).findIdx
        (Band.sameKey days start)]? = some b ∧ b.start = start ∧ b.days = days := by
  have idx : (l.map fun x => if x.sameKey days start then { x with tariff := tariff } else x).findIdx
      (Band.sameKey days start) = l.findIdx (Band.sameKey days start) := by
    rw [List.findIdx_map]
    congr 1
    funext x
    simp only [Function.comp]
    split <;> rfl
  obtain ⟨x, hx, hk⟩ := h
  have hlt : l.findIdx (Band.sameKey days start) < l.length :=
    List.findIdx_lt_length_of_exists ⟨x, hx, sameKey_iff.2 hk⟩
  rw [idx]
  exact ⟨_, List.getElem?_eq_getElem hlt, sameKey_iff.1 (List.findIdx_getElem (w := hlt))⟩

/-! ### STAGE_BAND REMOVE (R20) -/

theorem serveStageBandRemove_fields {days : Byte} {start : Nat} (s : State) (h : days = 0 ∨ 1439 < start) :
    serveStageBandRemove days start s = refuse .badField s := if_pos h

theorem serveStageBandRemove_notStaged {days : Byte} {start : Nat} {s : State} (hf : days ≠ 0 ∧ start ≤ 1439)
    (h : ∀ x ∈ s.tfs.staged.bands, ¬ (x.start = start ∧ x.days = days)) :
    serveStageBandRemove days start s = refuse .notFound s :=
  (if_neg fun hr => hr.elim hf.1 (Nat.not_lt.2 hf.2)).trans (if_pos (by rw [not_any_sameKey h]; exact nofun))

theorem serveStageBandRemove_removes {days : Byte} {start : Nat} {s : State} (hf : days ≠ 0 ∧ start ≤ 1439)
    (h : ∃ x ∈ s.tfs.staged.bands, x.start = start ∧ x.days = days) :
    serveStageBandRemove days start s = served (absentField 1) (s.setStaged { s.tfs.staged with
      bands := s.tfs.staged.bands.filter fun x => !x.sameKey days start }) := by
  obtain ⟨x, hx, hk⟩ := h
  exact (if_neg fun hr => hr.elim hf.1 (Nat.not_lt.2 hf.2)).trans
    (if_neg (not_not.2 (List.any_eq_true.2 ⟨x, hx, sameKey_iff.2 hk⟩)))

/-! ### The order of the list -/

/-- However an ADD ends, the list stays sorted. -/
theorem serveStageBandAdd_sorted {b : Band} {s : State} (hl : s.tfs.staged.bands.Pairwise Band.Below) :
    (serveStageBandAdd b s).state.tfs.staged.bands.Pairwise Band.Below := by
  by_cases hf : bandFieldsOk b
  · by_cases hk : ∃ x ∈ s.tfs.staged.bands, x.start = b.start ∧ x.days = b.days
    · rw [serveStageBandAdd_replaces hf hk]
      exact pairwise_replace hl _ _
    · have hn : ∀ x ∈ s.tfs.staged.bands, ¬ (x.start = b.start ∧ x.days = b.days) := fun x hx h => hk ⟨x, hx, h⟩
      by_cases ho : ∃ x ∈ s.tfs.staged.bands, x.start = b.start ∧ x.days &&& b.days ≠ 0
      · rw [serveStageBandAdd_overlap hf hn ho]
        exact hl
      · have hd : ∀ x ∈ s.tfs.staged.bands, x.start = b.start → x.days &&& b.days = 0 :=
          fun x hx hs => by_contra fun h => ho ⟨x, hx, hs, h⟩
        by_cases hc : 16 ≤ s.tfs.staged.bands.length
        · rw [serveStageBandAdd_full hf hn hd hc]
          exact hl
        · rw [serveStageBandAdd_inserts hf hn hd (Nat.lt_of_not_le hc)]
          exact pairwise_insert hl hf.1 hd
  · rw [serveStageBandAdd_fields s hf]
    exact hl

/-- However a REMOVE ends, the list stays sorted. -/
theorem serveStageBandRemove_sorted {days : Byte} {start : Nat} {s : State} (hl : s.tfs.staged.bands.Pairwise Band.Below) :
    (serveStageBandRemove days start s).state.tfs.staged.bands.Pairwise Band.Below := by
  unfold serveStageBandRemove
  dsimp only
  split_ifs
  · exact hl
  · exact hl.filter _
  · exact hl

/-- Settles O13. -/
theorem bandsAreStaged : Obligations.BandsAreStaged := by
  unfold Obligations.BandsAreStaged
  refine ⟨fun s days start tariff hl => ⟨fun h => ?fields, fun h => ?tariff⟩,
    fun s days start tariff l hl hdays hstart hlo hhi e => ?_⟩
  case fields =>
    refine ⟨request_of_refuse hl (serveStageBandAdd_fields s fun ⟨hd, hs, _⟩ => ?_),
      request_of_refuse hl (serveStageBandRemove_fields s h)⟩
    exact h.elim hd (Nat.not_lt.2 hs)
  case tariff =>
    refine request_of_refuse hl (serveStageBandAdd_fields s fun ⟨_, _, hlo, hhi⟩ => ?_)
    simp only at hlo hhi
    omega
  subst e
  have hf : bandFieldsOk ⟨days, start, tariff⟩ := ⟨hdays, hstart, hlo, hhi⟩
  refine ⟨fun hk => ⟨?replaces, ?removes⟩, fun hn => ⟨?notStaged, fun ho => ?overlap, fun hd =>
    ⟨fun hc => ?full, fun hc hsorted => ?inserts⟩⟩, fun t ht hsorted => ?sorted⟩
  case replaces =>
    obtain ⟨b, hb, hs, hd⟩ := findIdx_replaced (tariff := tariff) hk
    refine ⟨_, b, hb, hs, hd, (request_of_served hl (serveStageBandAdd_replaces hf hk)).trans ?_⟩
    simp only [sameKey_iff]
    rfl
  case removes => exact request_of_served hl (serveStageBandRemove_removes ⟨hdays, hstart⟩ hk)
  case notStaged => exact request_of_refuse hl (serveStageBandRemove_notStaged ⟨hdays, hstart⟩ hn)
  case overlap => exact request_of_refuse hl (serveStageBandAdd_overlap hf hn ho)
  case full => exact request_of_refuse hl (serveStageBandAdd_full hf hn hd hc)
  case inserts =>
    refine ⟨_, _, (filter_before_append hsorted ⟨days, start, tariff⟩).symm,
      (request_of_served hl (serveStageBandAdd_inserts hf hn hd hc)).trans ?_⟩
    rw [findIdx_inserted fun x hx => hn x (List.mem_filter.1 hx).1]
    rfl
  case sorted =>
    rcases ht with ht | ht
    · obtain rfl := Host.Outcome.next.inj ((request_listening hl).symm.trans ht)
      exact serveStageBandAdd_sorted hsorted
    · obtain rfl := Host.Outcome.next.inj ((request_listening hl).symm.trans ht)
      exact serveStageBandRemove_sorted hsorted

end Sys2Proof.Machine

/-! ## Commit and reading of the tariff sets (R24, R25, R30, R31) -/

namespace Sys2Proof.Machine

/-! ### COMMIT_TARIFFS -/

theorem serveCommitTariffs_sealed {s : State} (h : s.miu.sealOpen = false) : serveCommitTariffs s = refuse .sealed s :=
  if_pos (by rw [h]; exact nofun)

theorem serveCommitTariffs_notAllowed {s : State} (ho : s.miu.sealOpen = true)
    (h : s.sau.shift ≠ .closed ∨ s.sau.shift = .closed ∧ occupied s = true) :
    serveCommitTariffs s = refuse .notAllowed s := by
  rcases h with h | ⟨hc, hocc⟩
  · simp [serveCommitTariffs, ho, shiftRuns_eq_true_iff.2 h]
  · simp [serveCommitTariffs, ho, shiftRuns_eq_false_iff.2 hc, hocc]

/-- The checks of Table 2-4 before the staged set is looked at. -/
def commitAllowed (s : State) : Prop := s.miu.sealOpen = true ∧ s.sau.shift = .closed ∧ occupied s = false

theorem serveCommitTariffs_cause {s : State} (ha : commitAllowed s) {cause : List Byte}
    (h : commitCause s.tfs.staged = some cause) : serveCommitTariffs s = ⟨.badField, cause, s⟩ := by
  obtain ⟨ho, hc, hocc⟩ := ha
  simp [serveCommitTariffs, ho, shiftRuns_eq_false_iff.2 hc, hocc, h]

/-- The part with the staged set copied over the active one (R25). -/
def withStagedActive (s : State) : State :=
  s.setTfs { s.tfs with active := s.tfs.staged, version := satAdd max16 s.tfs.version 1, valid := true }

theorem serveCommitTariffs_copies {s : State} (ha : commitAllowed s) (h : commitCause s.tfs.staged = none) :
    serveCommitTariffs s = served (be 2 (satAdd max16 s.tfs.version 1))
      (handLabel (evaluateSchedule (withStagedActive s))) := by
  obtain ⟨ho, hc, hocc⟩ := ha
  simp only [serveCommitTariffs, ho, shiftRuns_eq_false_iff.2 hc, hocc, h, not_true_eq_false, Bool.false_eq_true, if_false]
  rfl

theorem commitCause_noTariff {t : TariffSet} (h : t.tariff? 1 = none) : commitCause t = some [1, 0xFF] := by
  simp [commitCause, h, be]

/-- The first band without its tariff (Table 2-4). -/
theorem missingBand_first {t : TariffSet} {earlier later : List Band} {b : Band} (e : t.bands = earlier ++ b :: later)
    (hearlier : ∀ x ∈ earlier, t.tariff? x.tariff ≠ none) (hb : t.tariff? b.tariff = none) :
    missingBand t = some earlier.length := by
  rw [missingBand, e, List.findIdx?_append, List.findIdx?_eq_none_iff.2 fun x hx => by
    rw [Bool.eq_false_iff]
    exact fun h => hearlier x hx (Option.isNone_iff_eq_none.1 h)]
  simp [List.findIdx?_cons, hb]

theorem missingBand_none {t : TariffSet} (h : ∀ b ∈ t.bands, t.tariff? b.tariff ≠ none) : missingBand t = none :=
  List.findIdx?_eq_none_iff.2 fun b hb => by
    rw [Bool.eq_false_iff]
    exact fun hn => h b hb (Option.isNone_iff_eq_none.1 hn)

theorem commitCause_missing {t : TariffSet} {n : Nat} (h : t.tariff? 1 ≠ none) (hm : missingBand t = some n) :
    commitCause t = some (be 1 2 ++ be 1 n) := by
  simp [commitCause, h, hm]

theorem commitCause_ready {t : TariffSet} (h : t.tariff? 1 ≠ none) (hm : missingBand t = none) : commitCause t = none := by
  simp [commitCause, h, hm]

/-- Settles O16. -/
theorem commitCopiesTheStagedSet : Obligations.CommitCopiesTheStagedSet := by
  unfold Obligations.CommitCopiesTheStagedSet
  intro s hl
  refine ⟨fun h => ?sealed, fun ho h => ?running, fun ho hc h => ?occupied, fun ho hc hocc =>
    ⟨fun h => ?noTariff, fun earlier b later h1 e hearlier hb => ?missing, fun h1 hbands => ?copies⟩⟩
  case sealed => exact request_of_refuse hl (serveCommitTariffs_sealed h)
  case running => exact request_of_refuse hl (serveCommitTariffs_notAllowed ho (.inl h))
  case occupied => exact request_of_refuse hl (serveCommitTariffs_notAllowed ho (.inr ⟨hc, h⟩))
  case noTariff =>
    refine (request_listening hl).trans ?_
    rw [serveCommitTariffs_cause ⟨ho, hc, hocc⟩ (commitCause_noTariff h)]
  case missing =>
    refine (request_listening hl).trans ?_
    rw [serveCommitTariffs_cause ⟨ho, hc, hocc⟩ (commitCause_missing h1 (missingBand_first e hearlier hb))]
  case copies =>
    have tfs : (evaluateSchedule (withStagedActive s)).tfs = _ := evaluateSchedule_tfs (withStagedActive s)
    refine ⟨_, request_of_served hl (serveCommitTariffs_copies ⟨ho, hc, hocc⟩
      (commitCause_ready h1 (missingBand_none hbands))), rfl, ?_⟩
    simp only [answered_tfs, answered_sgu, answered_fen, answered_miu, answered_sau, answered_vbu, handLabel_tfs, handLabel_fen,
      handLabel_miu, handLabel_sau, handLabel_vbu, evaluateSchedule_fen, evaluateSchedule_miu, evaluateSchedule_sau,
      evaluateSchedule_vbu, tfs]
    exact ⟨rfl, rfl, rfl, rfl, rfl, rfl, (handLabel_sgu _).1, rfl, rfl, rfl, rfl, by
      simp [outsideKept, withStagedActive]⟩

/-! ### Reading (R30, R31) -/

theorem serveRead_found {s : State} {selector : Nat} {set : TariffSet} {ok : Bool} {record : TariffSet → Option (List Byte)}
    {bytes : List Byte} (hs : selectedSet s selector = some set) (hk : ok = true) (h : record set = some bytes) :
    serveRead selector ok record s = served bytes s := by
  simp [serveRead, hs, hk, h]

theorem serveRead_notFound {s : State} {selector : Nat} {set : TariffSet} {ok : Bool} {record : TariffSet → Option (List Byte)}
    (hs : selectedSet s selector = some set) (hk : ok = true) (h : record set = none) :
    serveRead selector ok record s = refuse .notFound s := by
  simp [serveRead, hs, hk, h]

theorem serveRead_badKey {s : State} {selector : Nat} {set : TariffSet} {ok : Bool} {record : TariffSet → Option (List Byte)}
    (hs : selectedSet s selector = some set) (hk : ok = false) : serveRead selector ok record s = refuse .badField s := by
  simp [serveRead, hs, hk]

/-- Settles O17. -/
theorem setsAreRead : Obligations.SetsAreRead := by
  unfold Obligations.SetsAreRead
  intro s selector set hl hs
  refine ⟨?tariff, ?noTariff, ?badKey, ?noBand, ?badBand, ?noHoliday, ?badHoliday, ?noExtra, ?band, ?holiday, ?extra,
    request_of_served hl rfl, request_of_served hl rfl⟩
  case tariff =>
    intro n r hlo hhi h
    exact request_of_served hl (serveRead_found hs (within_eq_true_iff.2 ⟨hlo, hhi⟩) (by rw [h]; rfl))
  case noTariff =>
    intro n hlo hhi h
    exact request_of_refuse hl (serveRead_notFound hs (within_eq_true_iff.2 ⟨hlo, hhi⟩) (by rw [h]; rfl))
  case badKey =>
    intro n h
    exact ⟨request_of_refuse hl (serveRead_badKey hs (within_eq_false_iff.2 h)),
      request_of_refuse hl (serveRead_badKey hs (within_eq_false_iff.2 h))⟩
  case noBand =>
    intro n hn h
    exact request_of_refuse hl (serveRead_notFound hs (decide_eq_true hn) (by rw [List.getElem?_eq_none h]; rfl))
  case badBand =>
    intro n hn
    exact request_of_refuse hl (serveRead_badKey hs (decide_eq_false (Nat.not_le.2 hn)))
  case noHoliday =>
    intro n hn h
    exact request_of_refuse hl (serveRead_notFound hs (decide_eq_true hn) (by rw [List.getElem?_eq_none h]; rfl))
  case badHoliday =>
    intro n hn
    exact request_of_refuse hl (serveRead_badKey hs (decide_eq_false (Nat.not_le.2 hn)))
  case noExtra =>
    intro c hlo hhi h
    exact request_of_refuse hl (serveRead_notFound hs (within_eq_true_iff.2 ⟨hlo, hhi⟩) (by rw [h]; rfl))
  case band =>
    intro n b hn h
    exact request_of_served hl (serveRead_found hs (decide_eq_true hn) (by rw [h]; rfl))
  case holiday =>
    intro n d hn h
    exact request_of_served hl (serveRead_found hs (decide_eq_true hn) (by rw [h]; rfl))
  case extra =>
    intro c e hlo hhi h
    exact request_of_served hl (serveRead_found hs (within_eq_true_iff.2 ⟨hlo, hhi⟩) (by rw [h]; rfl))

end Sys2Proof.Machine

/-! ## Hires start, stop and resume (R33 to R38, R49, R61, R167) -/

namespace Sys2Proof.Machine

/-! ### HIRE_START (R35, R36) -/

theorem serveHireStart_fields {slot party source tariff : Nat} (s : State)
    (h : slotOf slot = none ∨ sourceOf source = none ∨ party < 1 ∨ 6 < party ∨ source = 1 ∧ (tariff < 1 ∨ 8 < tariff)) :
    serveHireStart slot party source tariff s = refuse .badField s := by
  unfold serveHireStart
  split
  · next k src hk hs =>
    refine if_pos ?_
    rw [hk, hs] at h
    rw [Bool.not_eq_true, Bool.not_eq_true, within_eq_false_iff, within_eq_false_iff]
    rcases h with h | h | h | h | ⟨rfl, h⟩
    · exact nomatch h
    · exact nomatch h
    · exact .inl (.inl h)
    · exact .inl (.inr h)
    · exact .inr ⟨(Option.some.inj hs).symm, h⟩
  · rfl

/-- The fields of a HIRE_START that are in range. -/
structure StartFields (slot party source tariff : Nat) (k : Slot) (src : TariffSource) : Prop where
  slot   : slotOf slot = some k
  source : sourceOf source = some src
  party  : 1 ≤ party ∧ party ≤ 6
  tariff : src = .fixed → 1 ≤ tariff ∧ tariff ≤ 8

theorem StartFields.ok {slot party source tariff : Nat} {k : Slot} {src : TariffSource}
    (f : StartFields slot party source tariff k src) :
    ¬ (¬ within 1 6 party = true ∨ src = .fixed ∧ ¬ within 1 8 tariff = true) := by
  rw [within_eq_true_iff, within_eq_true_iff]
  rintro (h | ⟨h, ht⟩)
  · exact h f.party
  · exact ht (f.tariff h)

theorem serveHireStart_refused {slot party source tariff : Nat} {k : Slot} {src : TariffSource} {s : State} {st : Status}
    (f : StartFields slot party source tariff k src) (h : startRefusal k party src tariff s = some st) :
    serveHireStart slot party source tariff s = refuse st s := by
  simp only [serveHireStart, f.slot, f.source, if_neg f.ok, h]

theorem serveHireStart_starts {slot party source tariff : Nat} {k : Slot} {src : TariffSource} {s : State}
    (f : StartFields slot party source tariff k src) (h : startRefusal k party src tariff s = none) :
    serveHireStart slot party source tariff s =
      served (be 2 (s.fen.counter + 1) ++ be 1 (startTariff src tariff s))
        (beginHire k (newHire party src (startTariff src tariff s) s) s) := by
  simp only [serveHireStart, f.slot, f.source, if_neg f.ok, h]
  rfl

/-- The intercom's part in a hire start (R167): a loop and a link test end, the blocks but for the intercom and the notices
stand. -/
theorem hireStartsAtIntercom_blocks (s : State) :
    (hireStartsAtIntercom s).fen = s.fen ∧ (hireStartsAtIntercom s).miu = s.miu ∧ (hireStartsAtIntercom s).tfs = s.tfs ∧
      (hireStartsAtIntercom s).vbu = s.vbu ∧ (hireStartsAtIntercom s).stu = s.stu ∧ (hireStartsAtIntercom s).tlc = s.tlc ∧
      (hireStartsAtIntercom s).sau = s.sau ∧ (hireStartsAtIntercom s).sgu = s.sgu ∧
      outsideKept s (hireStartsAtIntercom s) ∧ (hireStartsAtIntercom s).transit = s.transit := by
  unfold hireStartsAtIntercom
  dsimp only
  split <;> exact ⟨rfl, rfl, rfl, rfl, rfl, rfl, rfl, rfl, ⟨rfl, rfl, rfl⟩, rfl⟩

/-- The part with a hire placed in a slot, before its neighbours are told (R36, R61). -/
def withNewHire (k : Slot) (h : Hire) (s : State) : State :=
  recomputeSign (compose ((s.setFen { s.fen with counter := s.fen.counter + 1 }).setHire k (some h)))

theorem withNewHire_spec (k : Slot) (h : Hire) (s : State) :
    (withNewHire k h s).hire k = some h ∧ (withNewHire k h s).fen.counter = s.fen.counter + 1 ∧
      otherSlotsKept k s (withNewHire k h s) ∧
      (withNewHire k h s).transit =
        { s.transit with vbu := s.transit.vbu ++ [viewEntries (withNewHire k h s).fen.slots] } ∧
      (withNewHire k h s).sgu.desired = desiredImage (withNewHire k h s) :=
  ⟨Four.get_set_same .., rfl, fun _ hj => Four.get_set_ne _ _ hj, rfl, rfl⟩

theorem startRefusal_closed {k : Slot} {party : Nat} {src : TariffSource} {tariff : Nat} {s : State} (h : s.sau.shift ≠ .opened) :
    startRefusal k party src tariff s = some .notAllowed := if_pos h

/-- The checks of Table 3-4 that every HIRE_START meets first, passed. -/
structure MayStart (s : State) : Prop where
  shift  : s.sau.shift = .opened
  closed : s.miu.sealOpen = false
  valid  : s.miu.kValid = true

theorem startRefusal_sealed {k : Slot} {party : Nat} {src : TariffSource} {tariff : Nat} {s : State} (h : s.sau.shift = .opened)
    (ho : s.miu.sealOpen = true) : startRefusal k party src tariff s = some .sealed := by
  simp [startRefusal, h, ho]

theorem startRefusal_noK {k : Slot} {party : Nat} {src : TariffSource} {tariff : Nat} {s : State} (h : s.sau.shift = .opened)
    (ho : s.miu.sealOpen = false) (hk : s.miu.kValid = false) : startRefusal k party src tariff s = some .notAllowed := by
  simp [startRefusal, h, ho, hk]

theorem startRefusal_slot {k : Slot} {party : Nat} {src : TariffSource} {tariff : Nat} {s : State} (m : MayStart s)
    (h : s.hire k ≠ none ∨ s.fen.sharing = false ∧ occupied s = true) :
    startRefusal k party src tariff s = some .notAllowed := by
  by_cases hs : (s.hire k).isSome = true
  · simp [startRefusal, m.shift, m.closed, m.valid, hs]
  · have hshare := h.resolve_left (not_not.2 (Option.not_isSome_iff_eq_none.1 hs))
    simp [startRefusal, m.shift, m.closed, m.valid, hs, hshare.1, hshare.2]

/-- The slot is EMPTY, and free for another hire. -/
structure SlotFree (k : Slot) (s : State) : Prop where
  empty : s.hire k = none
  share : s.fen.sharing = true ∨ occupied s = false

theorem SlotFree.not_shared {k : Slot} {s : State} (f : SlotFree k s) : ¬ (¬ s.fen.sharing = true ∧ occupied s = true) := by
  rintro ⟨hs, ho⟩
  rcases f.share with h | h
  · exact hs h
  · rw [h] at ho
    exact nomatch ho

theorem startRefusal_of_slotFree {k : Slot} {party : Nat} {src : TariffSource} {tariff : Nat} {s : State} (m : MayStart s)
    (f : SlotFree k s) : startRefusal k party src tariff s =
      if freeSeats s < party then some .full
      else if src = .fixed ∧ ((activeSet s).tariff? tariff).isNone then some .badField
      else if 9999 ≤ s.fen.counter then some .notAllowed
      else none := by
  rw [startRefusal, if_neg (not_not.2 m.shift), if_neg (by rw [m.closed]; exact nofun), if_neg (not_not.2 m.valid),
    if_neg (by rw [f.empty]; exact nofun), if_neg f.not_shared]

/-- Settles O18. -/
theorem hireStartMakesARunningHire : Obligations.HireStartMakesARunningHire := by
  unfold Obligations.HireStartMakesARunningHire
  refine ⟨?starts, ?refused, ?fields⟩
  case starts =>
    intro s slot party source tariff k src hl hslot hsource hlo hhi htariff hnone
    have f : StartFields slot party source tariff k src := ⟨hslot, hsource, ⟨hlo, hhi⟩, htariff⟩
    let h := newHire party src (startTariff src tariff s) s
    obtain ⟨hhire, hcounter, hothers, htransit, hdesired⟩ := withNewHire_spec k h s
    obtain ⟨bfen, bmiu, btfs, bvbu, bstu, btlc, bsau, bsgu, bout, btransit⟩ :=
      hireStartsAtIntercom_blocks (withNewHire k h s)
    obtain ⟨hloop, hphase⟩ := hireStartsAtIntercom_quiet (withNewHire k h s)
    refine ⟨_, h, request_of_served hl (serveHireStart_starts f hnone), ?_, rfl, rfl, ?_, fun j hj => ?_, hloop, hphase, ?_, ?_,
      bmiu, btfs, bvbu, bstu, btlc, bsau, bout⟩
    · exact (congrArg (·.slots.get k) bfen).trans hhire
    · exact (congrArg (·.counter) bfen).trans hcounter
    · exact (congrArg (·.slots.get j) bfen).trans (hothers j hj)
    · exact btransit.trans (htransit.trans (by rw [← bfen]; rfl))
    · refine (congrArg (·.desired) bsgu).trans (hdesired.trans ?_)
      exact (desiredImage_congr bfen (congrArg (·.shift) bsau) (congrArg (·.text) bsgu) (congrArg (·.label) bsgu)
        (congrArg (·.latch) bsgu)).symm
  case refused =>
    intro s slot party source tariff k src st hl hslot hsource hlo hhi htariff hcheck
    refine request_of_refuse hl (serveHireStart_refused ⟨hslot, hsource, ⟨hlo, hhi⟩, htariff⟩ ?_)
    rcases hcheck with ⟨h, rfl⟩ | ⟨h, ho, rfl⟩ | ⟨h, ho, hk, rfl⟩ | ⟨h, ho, hk, hs, rfl⟩ | ⟨h, ho, hk, hs, hshare, hf, rfl⟩ |
      ⟨h, ho, hk, hs, hshare, hf, rfl, ht, rfl⟩ | ⟨h, ho, hk, hs, hshare, hf, ht, hc, rfl⟩
    · exact startRefusal_closed h
    · exact startRefusal_sealed h ho
    · exact startRefusal_noK h ho hk
    · exact startRefusal_slot ⟨h, ho, hk⟩ hs
    · rw [startRefusal_of_slotFree ⟨h, ho, hk⟩ ⟨hs, hshare⟩, if_pos hf]
    · rw [startRefusal_of_slotFree ⟨h, ho, hk⟩ ⟨hs, hshare⟩, if_neg (Nat.not_lt.2 hf), if_pos ⟨rfl, by rw [ht]; rfl⟩]
    · rw [startRefusal_of_slotFree ⟨h, ho, hk⟩ ⟨hs, hshare⟩, if_neg (Nat.not_lt.2 hf), if_neg fun ⟨hs, hn⟩ =>
        ht hs (Option.isNone_iff_eq_none.1 hn), if_pos hc]
  case fields =>
    intro s slot party source tariff hl h
    exact request_of_refuse hl (serveHireStart_fields s h)

/-! ### Requests on a hire (R33) -/

theorem onHire_noSlot {slot : Nat} {ok : Bool} {states : List HireState} {f : Slot → Hire → Served} {s : State}
    (h : slotOf slot = none) : onHire slot ok states f s = refuse .badField s := by
  simp [onHire, h]

theorem onHire_fields {slot : Nat} {states : List HireState} {f : Slot → Hire → Served} {s : State} {k : Slot}
    (h : slotOf slot = some k) : onHire slot false states f s = refuse .badField s := by
  simp [onHire, h]

theorem onHire_empty {slot : Nat} {states : List HireState} {f : Slot → Hire → Served} {s : State} {k : Slot}
    (h : slotOf slot = some k) (he : s.hire k = none) : onHire slot true states f s = refuse .notAllowed s := by
  simp [onHire, h, he]

theorem onHire_otherState {slot : Nat} {states : List HireState} {f : Slot → Hire → Served} {s : State} {k : Slot} {g : Hire}
    (h : slotOf slot = some k) (he : s.hire k = some g) (hs : g.state ∉ states) :
    onHire slot true states f s = refuse .notAllowed s := by
  simp [onHire, h, he, hs]

theorem onHire_takes {slot : Nat} {states : List HireState} {f : Slot → Hire → Served} {s : State} {k : Slot} {g : Hire}
    (h : slotOf slot = some k) (he : s.hire k = some g) (hs : g.state ∈ states) : onHire slot true states f s = f k g := by
  simp [onHire, h, he, hs]

theorem mem_going {st : HireState} : st ∈ [HireState.running, .suspended] ↔ st = .running ∨ st = .suspended := by simp

theorem mem_takesExtras {st : HireState} :
    st ∈ [HireState.running, .frozen, .due] ↔ st = .running ∨ st = .frozen ∨ st = .due := by simp

/-! ### HIRE_STOP, HIRE_RESUME, SET_HIRE_TARIFF (R37, R38, R49) -/

theorem serveHireStop_stops {slot : Nat} {k : Slot} {h : Hire} {s : State} (hk : slotOf slot = some k) (he : s.hire k = some h)
    (hs : h.state = .running ∨ h.state = .suspended) : serveHireStop slot s =
      served (be 4 (h.stopped (activeSet s)).remaining) (compose (s.setHire k (some (h.stopped (activeSet s))))) :=
  onHire_takes hk he (mem_going.2 hs)

theorem serveHireResume_of_suspended {slot : Nat} {k : Slot} {h : Hire} {s : State} (hk : slotOf slot = some k)
    (he : s.hire k = some h) (hs : h.state = .suspended) : serveHireResume slot s =
      if s.sau.shift ≠ .opened then refuse .notAllowed s
      else if s.miu.sealOpen then refuse .sealed s
      else served [] (compose (s.setHire k (some { h with state := .running }))) :=
  onHire_takes hk he (by simp [hs])

theorem serveSetHireTariff_noSource {slot source n : Nat} (s : State) (h : sourceOf source = none) :
    serveSetHireTariff slot source n s = refuse .badField s := by
  simp [serveSetHireTariff, h]

/-- A fixed tariff is named in the range of the numbers. -/
theorem serveSetHireTariff_fixed (slot n : Nat) (s : State) : serveSetHireTariff slot 1 n s =
    onHire slot (within 1 8 n) [.running, .suspended]
      (fun k h =>
        if (TariffSource.fixed) = .fixed ∧ ((activeSet s).tariff? n).isNone then refuse .badField s
        else served (be 1 h.tariff ++ optField 1 (if n = h.tariff then none else some n))
          (s.setHire k (some { h with source := .fixed, pending := if n = h.tariff then none else some n }))) s := rfl

theorem serveSetHireTariff_schedule (slot n : Nat) (s : State) : serveSetHireTariff slot 0 n s =
    onHire slot true [.running, .suspended]
      (fun k h => served (be 1 h.tariff ++ optField 1 (if s.tfs.scheduled = h.tariff then none else some s.tfs.scheduled))
        (s.setHire k (some { h with
          source := .schedule, pending := if s.tfs.scheduled = h.tariff then none else some s.tfs.scheduled }))) s := rfl

theorem serveSetHireTariff_range {slot n : Nat} {s : State} (h : n < 1 ∨ 8 < n) :
    serveSetHireTariff slot 1 n s = refuse .badField s := by
  rw [serveSetHireTariff_fixed, within_eq_false_iff.2 h]
  cases hk : slotOf slot with
  | none => exact onHire_noSlot hk
  | some k => exact onHire_fields hk

/-- Settles O19. -/
theorem hiresStopResumeAndSwitch : Obligations.HiresStopResumeAndSwitch := by
  unfold Obligations.HiresStopResumeAndSwitch
  refine ⟨fun s slot hl hk => ?noSlot, fun s slot k hl hk he => ?empty, fun s slot k h hl hk he =>
    ⟨fun hr hsus => ?otherState, fun source n hf => ?fields, fun n hs hlo hhi hn => ?noTariff, fun r hs hr => ?stops,
      fun hs hopen hseal => ?resumes, fun hs hopen hseal => ?sealed, fun hn => ?notResumed, fun n p hs hlo hhi hn hp => ?fixed,
      fun n p hs hp => ?schedule⟩⟩
  case noSlot =>
    refine ⟨request_of_refuse hl (onHire_noSlot hk), request_of_refuse hl (onHire_noSlot hk), fun source n => ?_,
      fun code amount => request_of_refuse hl (onHire_noSlot hk), fun n => request_of_refuse hl (onHire_noSlot hk),
      request_of_refuse hl (onHire_noSlot hk), request_of_refuse hl (by simp [serveHireRead, hk])⟩
    refine request_of_refuse hl ?_
    cases hs : sourceOf source with
    | none => exact serveSetHireTariff_noSource s hs
    | some src =>
      simp only [serveSetHireTariff, hs]
      exact onHire_noSlot hk
  case empty =>
    refine ⟨request_of_refuse hl (onHire_empty hk he), request_of_refuse hl (onHire_empty hk he), fun n hlo hhi => ⟨?_, ?_⟩,
      fun code amount hlo hhi => ?_, fun n hn => ?_, request_of_refuse hl (onHire_empty hk he)⟩
    · refine request_of_refuse hl ?_
      rw [serveSetHireTariff_fixed, within_eq_true_iff.2 ⟨hlo, hhi⟩]
      exact onHire_empty hk he
    · exact request_of_refuse hl (onHire_empty hk he)
    · refine request_of_refuse hl ?_
      rw [serveAddExtra, within_eq_true_iff.2 ⟨hlo, hhi⟩]
      exact onHire_empty hk he
    · refine request_of_refuse hl ?_
      rw [serveRemoveExtra, decide_eq_true hn]
      exact onHire_empty hk he
  case otherState =>
    have hs : h.state ∉ [HireState.running, .suspended] := by
      rw [mem_going]
      exact fun h => h.elim hr hsus
    refine ⟨request_of_refuse hl (onHire_otherState hk he hs), fun n hlo hhi => request_of_refuse hl ?_,
      fun n => request_of_refuse hl (onHire_otherState hk he hs)⟩
    rw [serveSetHireTariff_fixed, within_eq_true_iff.2 ⟨hlo, hhi⟩]
    exact onHire_otherState hk he hs
  case fields =>
    rcases hf with hf | ⟨rfl, hf⟩
    · exact request_of_refuse hl (serveSetHireTariff_noSource s hf)
    · exact request_of_refuse hl (serveSetHireTariff_range hf)
  case noTariff =>
    refine request_of_refuse hl ?_
    rw [serveSetHireTariff_fixed, within_eq_true_iff.2 ⟨hlo, hhi⟩, onHire_takes hk he (mem_going.2 hs),
      if_pos ⟨rfl, by rw [hn]; rfl⟩]
  case stops =>
    have stopped : h.stopped (activeSet s) = { h with
        pending := none, tenders := [], state := .frozen
        bill := some ⟨r.minimumFare - h.fare, h.fare + (r.minimumFare - h.fare) + h.extrasTotal,
          h.fare + (r.minimumFare - h.fare) + h.extrasTotal⟩ } := by
      simp [Hire.stopped, hr]
    have e := request_of_served (kind := 0x29) hl (serveHireStop_stops hk he hs)
    rw [stopped] at e
    exact e
  case resumes =>
    refine request_of_served hl ?_
    rw [serveHireResume_of_suspended hk he hs, if_neg (not_not.2 hopen), if_neg (by rw [hseal]; exact nofun)]
  case sealed =>
    refine request_of_refuse hl ?_
    rw [serveHireResume_of_suspended hk he hs, if_neg (not_not.2 hopen), if_pos hseal]
  case notResumed =>
    refine request_of_refuse hl ?_
    by_cases hs : h.state = .suspended
    · rw [serveHireResume_of_suspended hk he hs, if_pos (hn.resolve_left (not_not.2 hs))]
    · exact onHire_otherState hk he (by simp [hs])
  case fixed =>
    subst hp
    refine request_of_served hl ?_
    rw [serveSetHireTariff_fixed, within_eq_true_iff.2 ⟨hlo, hhi⟩, onHire_takes hk he (mem_going.2 hs),
      if_neg fun h => hn (Option.isNone_iff_eq_none.1 h.2)]
  case schedule =>
    subst hp
    refine request_of_served hl ?_
    rw [serveSetHireTariff_schedule, onHire_takes hk he (mem_going.2 hs)]

end Sys2Proof.Machine

/-! ## Extras, closes, band changes and confirmations (R47, R51 to R53, R57 to R59, R121) -/

namespace Sys2Proof.Machine

/-! ### Extras (R51, R52) -/

theorem Hire.afterExtras_running {h : Hire} (hr : h.state = .running) : h.afterExtras = h := if_pos hr

/-- A stopped hire billed again is FROZEN (R51, R52). -/
theorem Hire.afterExtras_stopped {h : Hire} {b : Bill} (hr : h.state ≠ .running) (hb : h.bill = some b) :
    h.afterExtras = { h with
      state := .frozen
      bill := some ⟨b.topUp, h.fare + b.topUp + h.extrasTotal,
        h.fare + b.topUp + h.extrasTotal - (h.tenders.map (·.amount)).sum⟩ } := by
  rw [Hire.afterExtras, if_neg hr, Hire.rebilled, hb]

/-- What a change of the extras leaves of a hire, running or stopped with a bill. -/
theorem Hire.afterExtras_spec {h : Hire} (hbill : h.state ≠ .running → h.bill ≠ none) :
    h.afterExtras.extras = h.extras ∧ h.afterExtras.extrasTotal = h.extrasTotal ∧ h.afterExtras.fare = h.fare ∧
      h.afterExtras.tenders = h.tenders ∧ h.afterExtras.state = (if h.state = .running then .running else .frozen) ∧
      ∀ b, h.state ≠ .running → h.bill = some b → h.afterExtras.bill = some ⟨b.topUp, h.fare + b.topUp + h.extrasTotal,
        h.fare + b.topUp + h.extrasTotal - (h.tenders.map (·.amount)).sum⟩ := by
  by_cases hr : h.state = .running
  · rw [Hire.afterExtras_running hr, if_pos hr]
    exact ⟨rfl, rfl, rfl, rfl, hr, fun _ hn => absurd hr hn⟩
  · obtain ⟨b, hb⟩ := Option.ne_none_iff_exists'.1 (hbill hr)
    rw [Hire.afterExtras_stopped hr hb, if_neg hr]
    refine ⟨rfl, rfl, rfl, rfl, rfl, fun c _ hc => ?_⟩
    obtain rfl := Option.some.inj (hb.symm.trans hc)
    rfl

/-- A hire replaced, with the composition that follows, answered. -/
theorem answered_compose_setHire (kind : Byte) (p : List Byte) (k : Slot) (h : Hire) (s : State) :
    (answered kind .ok p (compose (s.setHire k (some h)))).hire k = some h ∧
      (answered kind .ok p (compose (s.setHire k (some h)))).transit.vbu = s.transit.vbu ++
        [viewEntries (answered kind .ok p (compose (s.setHire k (some h)))).fen.slots] ∧
      otherSlotsKept k s (answered kind .ok p (compose (s.setHire k (some h)))) :=
  ⟨Four.get_set_same .., rfl, fun _ hj => Four.get_set_ne _ _ hj⟩

theorem extraAmount_eq {e : ExtraEntry} {amount a : Nat}
    (h : e.kind = .fixedAmount ∧ a = e.amount ∨ e.kind = .variableAmount ∧ 1 ≤ amount ∧ amount ≤ e.amount ∧ a = amount) :
    extraAmount e amount = some a := by
  rcases h with ⟨hk, rfl⟩ | ⟨hk, hlo, hhi, rfl⟩
  · simp [extraAmount, hk]
  · simp [extraAmount, hk, within_eq_true_iff.2 ⟨hlo, hhi⟩]

theorem serveAddExtra_adds {slot code amount a : Nat} {k : Slot} {h : Hire} {e : ExtraEntry} {s : State}
    (hk : slotOf slot = some k) (he : s.hire k = some h) (hs : h.state = .running ∨ h.state = .frozen ∨ h.state = .due)
    (hcode : 1 ≤ code ∧ code ≤ 8) (hentry : (activeSet s).extra? code = some e) (ha : extraAmount e amount = some a)
    (hroom : h.extras.length < 8) (hcount : (h.extras.filter fun x => x.code == code).length < e.maxCount) :
    serveAddExtra slot code amount s = extrasReply k
      { h with extras := h.extras ++ [(⟨code, a⟩ : ExtraItem)], extrasTotal := h.extrasTotal + a }.afterExtras s := by
  rw [serveAddExtra, within_eq_true_iff.2 hcode, onHire_takes hk he (mem_takesExtras.2 hs)]
  simp only [hentry, ha]
  exact if_neg (by omega)

theorem serveRemoveExtra_of_entry {slot n : Nat} {k : Slot} {h : Hire} {x : ExtraItem} {s : State}
    (hk : slotOf slot = some k) (he : s.hire k = some h) (hs : h.state = .running ∨ h.state = .frozen ∨ h.state = .due)
    (hn : n ≤ 7) (hx : h.extras[n]? = some x) : serveRemoveExtra slot n s =
      if h.underpaidBy x.amount then refuse .notAllowed s
      else extrasReply k
        { h with extras := h.extras.eraseIdx n, extrasTotal := h.extrasTotal - x.amount }.afterExtras s := by
  rw [serveRemoveExtra, decide_eq_true hn, onHire_takes hk he (mem_takesExtras.2 hs)]
  simp only [hx]

theorem Hire.underpaidBy_iff {h : Hire} {amount : Nat} : h.underpaidBy amount = true ↔
    ∃ b, h.bill = some b ∧ h.state ≠ .running ∧
      h.fare + b.topUp + (h.extrasTotal - amount) ≤ (h.tenders.map (·.amount)).sum := by
  cases hb : h.bill with
  | none => simp [Hire.underpaidBy, hb]
  | some b => simp [Hire.underpaidBy, hb]

/-- Settles O20. -/
theorem extrasChangeTheBill : Obligations.ExtrasChangeTheBill := by
  unfold Obligations.ExtrasChangeTheBill
  intro s slot k h hl hk he hs hbill
  refine ⟨?adds, ?removes, ?paid⟩
  case adds =>
    intro code amount e a hlo hhi hentry ha hroom hcount
    obtain ⟨hextras, htotal, hfare, htenders, hstate, hrebill⟩ := Hire.afterExtras_spec
      (h := { h with extras := h.extras ++ [⟨code, a⟩], extrasTotal := h.extrasTotal + a }) hbill
    obtain ⟨hhire, hview, hothers⟩ := answered_compose_setHire 0x2C _ k _ s
    exact ⟨_, _, request_of_served hl (serveAddExtra_adds hk he hs ⟨hlo, hhi⟩ hentry (extraAmount_eq ha) hroom hcount), hhire,
      hextras, htotal, hfare, htenders, hstate, hrebill, hview, hothers, rfl, rfl, rfl, rfl, rfl⟩
  case removes =>
    intro n x hn hx hunpaid
    obtain ⟨hextras, htotal, hfare, htenders, hstate, hrebill⟩ := Hire.afterExtras_spec
      (h := { h with extras := h.extras.eraseIdx n, extrasTotal := h.extrasTotal - x.amount }) hbill
    obtain ⟨hhire, hview, hothers⟩ := answered_compose_setHire 0x2D _ k _ s
    have open_bill : ¬ h.underpaidBy x.amount = true := by
      rw [Hire.underpaidBy_iff]
      rintro ⟨b, hb, hr, hle⟩
      exact absurd hle (Nat.not_le.2 (hunpaid b hr hb))
    exact ⟨_, _, request_of_served hl ((serveRemoveExtra_of_entry hk he hs hn hx).trans (if_neg open_bill)), hhire,
      hextras, htotal, hfare, htenders, hstate, hrebill, hview, hothers, rfl, rfl, rfl, rfl, rfl⟩
  case paid =>
    intro n x b hn hx hr hb hle
    exact request_of_refuse hl ((serveRemoveExtra_of_entry hk he hs hn hx).trans
      (if_pos (Hire.underpaidBy_iff.2 ⟨b, hb, hr, hle⟩)))

/-! ### HIRE_ABANDON and HIRE_READ (R57 to R59) -/

theorem mem_stopped {st : HireState} : st ∈ [HireState.frozen, .due] ↔ st = .frozen ∨ st = .due := by simp

theorem serveHireRead_hire {slot : Nat} {k : Slot} {h : Hire} {s : State} (hk : slotOf slot = some k) (he : s.hire k = some h) :
    serveHireRead slot s = served (h.toBytes ++ be 1 (freeSeats s)) s := by
  simp [serveHireRead, hk, he]

theorem serveHireRead_empty {slot : Nat} {k : Slot} {s : State} (hk : slotOf slot = some k) (he : s.hire k = none) :
    serveHireRead slot s = served (be 1 0 ++ be 1 (freeSeats s)) s := by
  simp [serveHireRead, hk, he]

/-- Settles O21. -/
theorem hiresAreAbandonedAndRead : Obligations.HiresAreAbandonedAndRead := by
  unfold Obligations.HiresAreAbandonedAndRead
  intro s slot k h hl hk
  refine ⟨fun he hs => ?abandons, fun he hf hd => ?otherState, fun he => ?empty, fun he => ?reads, fun he => ?readsEmpty⟩
  case abandons => exact request_of_served hl (onHire_takes hk he (mem_stopped.2 hs))
  case otherState =>
    refine request_of_refuse hl (onHire_otherState hk he ?_)
    rw [mem_stopped]
    exact fun hs => hs.elim hf hd
  case empty => exact request_of_refuse hl (onHire_empty hk he)
  case reads => exact request_of_served hl (serveHireRead_hire hk he)
  case readsEmpty => exact request_of_served hl (serveHireRead_empty hk he)

/-! ### The close record (R58, R121) -/

/-- The tenders of a list by their methods make up all of them. -/
theorem sum_by_method (l : List Tender) : (l.map (·.amount)).sum =
    ((l.filter (·.method == .cash)).map (·.amount)).sum + ((l.filter (·.method == .card)).map (·.amount)).sum
      + ((l.filter (·.method == .cardDeferred)).map (·.amount)).sum
      + ((l.filter (·.method == .account)).map (·.amount)).sum := by
  induction l with
  | nil => rfl
  | cons t l ih =>
    obtain ⟨method, amount, tip, account⟩ := t
    rw [List.map_cons, List.sum_cons, ih]
    cases method <;> simp <;> omega

theorem closeHire_hires (k : Slot) (paid : Bool) (w : Nat) (h : Hire) (s : State) :
    (closeHire k paid w h s).hire k = none ∧ otherSlotsKept k s (closeHire k paid w h s) := by
  have slots : (closeHire k paid w h s).fen.slots = s.fen.slots.set k none := by simp [closeHire, State.setHire]
  refine ⟨?_, fun j hj => ?_⟩
  · rw [State.hire, slots]
    exact Four.get_set_same ..
  · rw [State.hire, slots]
    exact Four.get_set_ne _ _ hj

theorem closeHire_sau {k : Slot} {paid : Bool} {w : Nat} {h : Hire} {s : State} (hc : s.sau.shift ≠ .closed) :
    (closeHire k paid w h s).sau = { s.sau with live := postClose paid w h s.sau.live } := by
  simp [closeHire, post_running hc]

theorem closeHire_notice (k : Slot) (paid : Bool) (w : Nat) (h : Hire) (s : State) :
    (closeHire k paid w h s).clc.notices.get (hireKind k)
      = (s.clc.notices.get (hireKind k)).addReason (if paid then 4 else 5) := by
  cases paid with
  | true =>
    refine (raise_get_kind (.closedPaid k) _).trans ?_
    rw [post_clc]
    rfl
  | false =>
    refine (raise_get_kind (.closedUnpaid k) _).trans ?_
    rw [post_clc]
    rfl

/-- A close of a hire whose tenders and write-off make up its due total keeps the balance, where nothing saturates. -/
theorem postClose_balance {paid : Bool} {w : Nat} {h : Hire} {b : Bill} {v : ShiftRecord} (hb : h.bill = some b)
    (hsum : (h.tenders.map (·.amount)).sum + w = b.dueTotal)
    (hbalance : v.dueSum = v.cashNet + v.cardApproved + v.cardDeferred + v.account + v.writtenOff)
    (hcap : v.dueSum + b.dueTotal ≤ 999999999999) :
    (postClose paid w h v).dueSum = v.dueSum + b.dueTotal ∧ (postClose paid w h v).dueSum =
      (postClose paid w h v).cashNet + (postClose paid w h v).cardApproved + (postClose paid w h v).cardDeferred
        + (postClose paid w h v).account + (postClose paid w h v).writtenOff := by
  have hmethods := sum_by_method h.tenders
  simp only [postClose, satAdd, hb, Option.map_some, Option.getD_some, tenderSum, maxSum]
  omega

/-- Settles O22: the close record is posted as it stands, and the tenders make up the due total by their methods. -/
theorem closeKeepsThePaymentBalance : Obligations.CloseKeepsThePaymentBalance := by
  unfold Obligations.CloseKeepsThePaymentBalance
  intro s k h paid w b v hc he hb hv
  subst hv
  obtain ⟨hnone, hothers⟩ := closeHire_hires k paid w h s
  refine ⟨_, rfl, hnone, hothers, (closeHire_sau hc).trans (by unfold postClose; rw [hb]; rfl),
    fun hsum hbalance hcap => ?balance, closeHire_notice .., rfl⟩
  case balance =>
    rw [closeHire_sau hc]
    exact postClose_balance hb hsum hbalance hcap

/-! ### Band changes (R47) -/

theorem applyBandChange_hire (n : Nat) (s : State) (k : Slot) : (applyBandChange n s).hire k =
    (s.hire k).map fun h => if h.followsCalendar then h.follow n else h := Four.get_map ..

theorem Hire.followsCalendar_iff {h : Hire} :
    h.followsCalendar = true ↔ (h.state = .running ∨ h.state = .suspended) ∧ h.source = .schedule := by
  simp [Hire.followsCalendar]

/-- Settles O23. -/
theorem bandChangeSetsPendingTariffs : Obligations.BandChangeSetsPendingTariffs := by
  unfold Obligations.BandChangeSetsPendingTariffs
  intro s n rest hp hfirst
  have taken : exec .fenBandChange s = .next (applyBandChange n (s.setTransit { s.transit with fen := rest })) := by
    rw [exec_event (c := .fenBandChange) rfl hp, takeFenEvent, hfirst]
    rfl
  refine ⟨_, taken, rfl, fun k h he => ⟨fun hf => ?follows, fun hf => ?stands⟩, fun k he => ?empty, rfl, rfl, rfl, rfl, rfl, rfl,
    rfl, rfl, rfl⟩
  case follows =>
    refine (applyBandChange_hire ..).trans ((congrArg _ he).trans ?_)
    rw [Option.map_some, if_pos (Hire.followsCalendar_iff.2 hf)]
    rfl
  case stands =>
    refine (applyBandChange_hire ..).trans ((congrArg _ he).trans ?_)
    rw [Option.map_some, if_neg (mt Hire.followsCalendar_iff.1 hf)]
  case empty => exact (applyBandChange_hire ..).trans ((congrArg _ he).trans rfl)

/-! ### Confirmations (R53) -/

/-- What no item of a list touches stands. -/
theorem foldl_of_not_mem {σ ι α : Type} {f : σ → ι → σ} {read : σ → α} {k : ι}
    (hne : ∀ s j, j ≠ k → read (f s j) = read s) {l : List ι} (hk : k ∉ l) (s : σ) : read (l.foldl f s) = read s := by
  induction l generalizing s with
  | nil => rfl
  | cons j l ih =>
    rw [List.foldl_cons, ih fun h => hk (List.mem_cons_of_mem _ h), hne s j fun e => hk (e ▸ List.mem_cons_self)]

/-- A list gone through once, each of its items touching its own part: what one item's part is left as. -/
theorem foldl_at {σ ι α : Type} {f : σ → ι → σ} {read : σ → α} {k : ι} {g : α → α} (hne : ∀ s j, j ≠ k → read (f s j) = read s)
    (heq : ∀ s, read (f s k) = g (read s)) {l : List ι} (hl : l.Nodup) (hk : k ∈ l) (s : σ) :
    read (l.foldl f s) = g (read s) := by
  induction l generalizing s with
  | nil => exact absurd hk List.not_mem_nil
  | cons j l ih =>
    obtain ⟨hj, hl⟩ := List.nodup_cons.1 hl
    rw [List.foldl_cons]
    rcases List.mem_cons.1 hk with rfl | hk
    · rw [foldl_of_not_mem hne hj, heq]
    · rw [ih hl hk, hne s j fun e => hj (e ▸ hk)]

/-- What a confirmation reads and writes of a slot. -/
def slotPart (k : Slot) (s : State) : Option Hire × Notice := (s.hire k, s.clc.notices.get (hireKind k))

/-- What an entry does to the slot that it names (R53). -/
def confirmPart (e : Option ViewEntry) (p : Option Hire × Notice) : Option Hire × Notice :=
  match e, p.1 with
  | some e, some h =>
    if h.number = e.number then
      if h.qualifies e then (some { h with confirmed := some e.displayed, state := .due }, p.2.addReason 2)
      else (some { h with confirmed := some e.displayed }, p.2)
    else p
  | _, _ => p

theorem raise_setHire_slotPart_ne {j k : Slot} {r : Reason} (hj : j ≠ k) (hr : r.kind = hireKind j) (h : Option Hire) (s : State) :
    slotPart k (raise r (s.setHire j h)) = slotPart k s := by
  refine Prod.ext (State.setHire_hire_ne s h hj.symm) (raise_get_ne r (s.setHire j h) ?_)
  rw [hr]
  exact fun e => hj (hireKind_injective e).symm

theorem confirmSlot_slotPart_ne (entries : Four (Option ViewEntry)) {j k : Slot} (hj : j ≠ k) (acc : State × Bool) :
    slotPart k (confirmSlot entries acc j).1 = slotPart k acc.1 := by
  unfold confirmSlot
  split
  · split
    · dsimp only
      split
      · exact raise_setHire_slotPart_ne hj rfl _ _
      · exact Prod.ext (State.setHire_hire_ne _ _ hj.symm) rfl
    · rfl
  · rfl

theorem confirmSlot_slotPart (entries : Four (Option ViewEntry)) (k : Slot) (acc : State × Bool) :
    slotPart k (confirmSlot entries acc k).1 = confirmPart (entries.get k) (slotPart k acc.1) := by
  unfold confirmSlot confirmPart slotPart
  cases entries.get k with
  | none => rfl
  | some e =>
    cases he : acc.1.hire k with
    | none => simp only [he]
    | some h =>
      dsimp only
      by_cases hn : h.number = e.number
      · rw [if_pos hn, if_pos hn]
        by_cases hq : h.qualifies e = true
        · rw [if_pos hq, if_pos hq]
          exact Prod.ext (State.setHire_hire_same ..) (raise_get_kind (.dueReached k) (acc.1.setHire k _))
        · rw [if_neg hq, if_neg hq]
          exact Prod.ext (State.setHire_hire_same ..) rfl
      · rw [if_neg hn, if_neg hn]
        exact Prod.ext he rfl

/-- What one entry of a confirmation leaves: the FEN's slots and the notices apart, everything. -/
theorem confirmSlot_frame (entries : Four (Option ViewEntry)) (acc : State × Bool) (k : Slot) :
    ∃ f c, (confirmSlot entries acc k).1 = (acc.1.setFen f).setClc c := by
  unfold confirmSlot
  split
  · split
    · dsimp only
      split
      · exact ⟨_, _, rfl⟩
      · exact ⟨{ acc.1.fen with slots := acc.1.fen.slots.set k _ }, acc.1.clc, rfl⟩
    · exact ⟨acc.1.fen, acc.1.clc, rfl⟩
  · exact ⟨acc.1.fen, acc.1.clc, rfl⟩

theorem confirmSlots_frame (entries : Four (Option ViewEntry)) (l : List Slot) (acc : State × Bool) :
    ∃ f c, (l.foldl (confirmSlot entries) acc).1 = (acc.1.setFen f).setClc c := by
  induction l generalizing acc with
  | nil => exact ⟨acc.1.fen, acc.1.clc, rfl⟩
  | cons k l ih =>
    obtain ⟨f, c, e⟩ := confirmSlot_frame entries acc k
    obtain ⟨f', c', e'⟩ := ih (confirmSlot entries acc k)
    refine ⟨f', c', ?_⟩
    rw [List.foldl_cons, e', e]
    rfl

/-- A confirmation at the slots, the composition that may follow aside. -/
theorem applyConfirmation_slotPart (entries : Four (Option ViewEntry)) (s : State) (k : Slot) :
    slotPart k (applyConfirmation entries s) = confirmPart (entries.get k) (slotPart k s) := by
  have all : slotPart k (Slot.all.foldl (confirmSlot entries) (s, false)).1 = confirmPart (entries.get k) (slotPart k s) :=
    foldl_at (read := fun acc : State × Bool => slotPart k acc.1) (fun acc _ hj => confirmSlot_slotPart_ne entries hj acc)
      (confirmSlot_slotPart entries k) Slot.nodup_all k.mem_all (s, false)
  unfold applyConfirmation
  dsimp only
  split <;> exact all

theorem applyConfirmation_frame (entries : Four (Option ViewEntry)) (s : State) :
    (applyConfirmation entries s).transit.fen = s.transit.fen ∧ (applyConfirmation entries s).vbu = s.vbu ∧
      (applyConfirmation entries s).sau = s.sau ∧ (applyConfirmation entries s).stu = s.stu ∧
      (applyConfirmation entries s).tlc = s.tlc ∧ (applyConfirmation entries s).sgu = s.sgu ∧
      (applyConfirmation entries s).miu = s.miu ∧ outsideKept s (applyConfirmation entries s) := by
  obtain ⟨f, c, e⟩ := confirmSlots_frame entries Slot.all (s, false)
  unfold applyConfirmation
  dsimp only
  rw [e]
  split <;> exact ⟨rfl, rfl, rfl, rfl, rfl, rfl, rfl, ⟨rfl, rfl, rfl⟩⟩

theorem Hire.qualifies_iff {h : Hire} {e : ViewEntry} : h.qualifies e = true ↔
    h.state = .frozen ∧ e.state = .frozen ∧ e.dueTotal ≠ none ∧ e.dueTotal = h.bill.map (·.dueTotal) := by
  simp [Hire.qualifies, and_assoc, Option.isSome_iff_ne_none]

theorem confirmPart_named {e : ViewEntry} {h : Hire} (n : Notice) (hn : h.number = e.number) :
    confirmPart (some e) (some h, n) =
      if h.qualifies e then (some { h with confirmed := some e.displayed, state := .due }, n.addReason 2)
      else (some { h with confirmed := some e.displayed }, n) := if_pos hn

/-- Settles O28. -/
theorem confirmationMakesFrozenHiresDue : Obligations.ConfirmationMakesFrozenHiresDue := by
  unfold Obligations.ConfirmationMakesFrozenHiresDue
  intro s entries rest hp hfirst
  have taken : exec .confirmation s =
      .next (applyConfirmation entries (s.setTransit { s.transit with fen := rest })) := by
    rw [exec_event (c := .confirmation) rfl hp, takeFenEvent, hfirst]
    rfl
  have part : ∀ k, slotPart k (applyConfirmation entries (s.setTransit { s.transit with fen := rest }))
      = confirmPart (entries.get k) (s.hire k, s.clc.notices.get (hireKind k)) :=
    applyConfirmation_slotPart entries (s.setTransit { s.transit with fen := rest })
  obtain ⟨hfen, hvbu, hsau, hstu, htlc, hsgu, hmiu, hout⟩ :=
    applyConfirmation_frame entries (s.setTransit { s.transit with fen := rest })
  refine ⟨_, taken, hfen, fun k e h hentry he hn => ⟨fun hq => ?due, fun hq => ?shown⟩, fun k hentry => ?noEntry,
    fun k e h hentry he hn => ?other, hvbu, hsau, hstu, htlc, hsgu, hmiu, hout⟩
  case due =>
    have p := part k
    rw [hentry, he, confirmPart_named _ hn, if_pos (Hire.qualifies_iff.2 hq)] at p
    exact ⟨congrArg Prod.fst p, congrArg Prod.snd p⟩
  case shown =>
    have p := part k
    rw [hentry, he, confirmPart_named _ hn, if_neg (mt Hire.qualifies_iff.1 hq)] at p
    exact congrArg Prod.fst p
  case noEntry =>
    have p := part k
    rw [hentry] at p
    exact congrArg Prod.fst p
  case other =>
    have p := part k
    rw [hentry, he, show confirmPart (some e) (some h, _) = _ from if_neg hn, ← he] at p
    exact congrArg Prod.fst p

end Sys2Proof.Machine

/-! ## Second reports applied to the hires (R41, R45, R46, R61, R74) -/

namespace Sys2Proof.Machine

/-! ### One hire's accrual taken into the part -/

/-- The hire, the count and the reasons of an accrual, before an onset of DISPLAY_STALE. -/
def accrued (k : Slot) (a : Accrual) (s : State) : State :=
  let kept := (s.setHire k (some a.hire)).setVbu { s.vbu with lagCount := a.lag }
  let forgone := if a.forgone then raise (.stepsForgone k) kept else kept
  if a.switched then raise (.tariffSwitched k) forgone else forgone

theorem takeAccrual_eq (k : Slot) (a : Accrual) (s : State) : takeAccrual k a s =
    if 0 < s.vbu.lagCount ∧ a.lag = 0 then staleOnset (accrued k a s) else accrued k a s := rfl

theorem raiseIf_slotPart {k : Slot} {r : Reason} (hr : r.kind = hireKind k) (b : Bool) (s : State) :
    slotPart k (if b then raise r s else s) = ((slotPart k s).1, if b then (slotPart k s).2.addReason r.bit else (slotPart k s).2) := by
  cases b with
  | false => rfl
  | true => exact Prod.ext rfl ((congrArg _ hr.symm).trans ((raise_get_kind r s).trans (by rw [hr]; rfl)))

theorem raiseIf_slotPart_ne {j k : Slot} {r : Reason} (hj : j ≠ k) (hr : r.kind = hireKind j) (b : Bool) (s : State) :
    slotPart k (if b then raise r s else s) = slotPart k s := by
  cases b with
  | false => rfl
  | true => exact Prod.ext rfl (raise_get_ne r s fun e => hj (hireKind_injective (hr.symm.trans e.symm)))

theorem accrued_slotPart (k : Slot) (a : Accrual) (s : State) : slotPart k (accrued k a s) =
    (some a.hire,
      let n := if a.forgone then (s.clc.notices.get (hireKind k)).addReason 6 else s.clc.notices.get (hireKind k)
      if a.switched then n.addReason 1 else n) := by
  have kept : slotPart k ((s.setHire k (some a.hire)).setVbu { s.vbu with lagCount := a.lag }) =
      (some a.hire, s.clc.notices.get (hireKind k)) := Prod.ext (State.setHire_hire_same ..) rfl
  unfold accrued
  dsimp only
  rw [raiseIf_slotPart (r := .tariffSwitched k) rfl, raiseIf_slotPart (r := .stepsForgone k) rfl, kept]
  rfl

theorem accrued_slotPart_ne {j k : Slot} (hj : j ≠ k) (a : Accrual) (s : State) : slotPart k (accrued j a s) = slotPart k s := by
  have kept : slotPart k ((s.setHire j (some a.hire)).setVbu { s.vbu with lagCount := a.lag }) = slotPart k s :=
    Prod.ext (State.setHire_hire_ne _ _ hj.symm) rfl
  unfold accrued
  dsimp only
  rw [raiseIf_slotPart_ne hj (r := .tariffSwitched j) rfl, raiseIf_slotPart_ne hj (r := .stepsForgone j) rfl, kept]

theorem displayStale_ne_hireKind (k : Slot) : NoticeKind.displayStale ≠ hireKind k := by cases k <;> decide

theorem accrued_displayStale (k : Slot) (a : Accrual) (s : State) :
    (accrued k a s).clc.notices.get .displayStale = s.clc.notices.get .displayStale := by
  have raiseIf : ∀ (r : Reason) (b : Bool) (t : State), r.kind = hireKind k →
      (if b then raise r t else t).clc.notices.get .displayStale = t.clc.notices.get .displayStale := by
    intro r b t hr
    cases b with
    | false => rfl
    | true => exact raise_get_ne r t (hr ▸ displayStale_ne_hireKind k)
  unfold accrued
  dsimp only
  rw [raiseIf (.tariffSwitched k) _ _ rfl, raiseIf (.stepsForgone k) _ _ rfl]
  rfl

theorem accrued_frame (k : Slot) (a : Accrual) (s : State) :
    (accrued k a s).vbu = { s.vbu with lagCount := a.lag } ∧ (accrued k a s).sau = s.sau ∧
      (accrued k a s).fen.counter = s.fen.counter := by
  unfold accrued
  dsimp only
  split_ifs <;> exact ⟨rfl, rfl, rfl⟩

theorem staleOnset_slotPart (k : Slot) (s : State) : slotPart k (staleOnset s) = slotPart k s := by
  refine Prod.ext (by simp [slotPart, staleOnset, State.hire]) ?_
  refine (NoticeSet.get_set_ne _ _ (displayStale_ne_hireKind k).symm).trans ?_
  rw [post_clc]
  rfl

theorem takeAccrual_slotPart (k : Slot) (a : Accrual) (s : State) : slotPart k (takeAccrual k a s) =
    (some a.hire,
      let n := if a.forgone then (s.clc.notices.get (hireKind k)).addReason 6 else s.clc.notices.get (hireKind k)
      if a.switched then n.addReason 1 else n) := by
  rw [takeAccrual_eq, ← accrued_slotPart]
  split
  · exact staleOnset_slotPart ..
  · rfl

theorem takeAccrual_slotPart_ne {j k : Slot} (hj : j ≠ k) (a : Accrual) (s : State) :
    slotPart k (takeAccrual j a s) = slotPart k s := by
  rw [takeAccrual_eq, ← accrued_slotPart_ne hj a s]
  split
  · exact staleOnset_slotPart ..
  · rfl

theorem takeAccrual_vbu (k : Slot) (a : Accrual) (s : State) :
    (takeAccrual k a s).vbu = { s.vbu with lagCount := a.lag } := by
  rw [takeAccrual_eq, ← (accrued_frame k a s).1]
  split
  · exact staleOnset_vbu ..
  · rfl

theorem takeAccrual_counter (k : Slot) (a : Accrual) (s : State) : (takeAccrual k a s).fen.counter = s.fen.counter := by
  rw [takeAccrual_eq, ← (accrued_frame k a s).2.2]
  split
  · rw [staleOnset_fen]
  · rfl

/-! ### The display lag count drawn down (R73, R74) -/

/-- The account at an onset of DISPLAY_STALE: one episode more, while a shift runs (R74, R123). -/
def Sau.staled (u : Sau) : Sau :=
  if u.shift = .closed then u else { u with live := { u.live with staleEpisodes := satAdd max16 u.live.staleEpisodes 1 } }

theorem staleOnset_sau (s : State) : (staleOnset s).sau = s.sau.staled := by
  unfold staleOnset post Sau.staled
  split <;> rfl

theorem staleOnset_displayStale (s : State) :
    (staleOnset s).clc.notices.displayStale = s.clc.notices.displayStale.begins := by
  unfold staleOnset post
  split <;> rfl

/-- The count falls from one state to another, and DISPLAY_STALE began where it reached 0 (R74). -/
structure Drains (s t : State) : Prop where
  lag : t.vbu.lagCount ≤ s.vbu.lagCount
  quiet : 0 < t.vbu.lagCount ∨ s.vbu.lagCount = 0 →
    t.sau = s.sau ∧ t.clc.notices.displayStale = s.clc.notices.displayStale
  onset : 0 < s.vbu.lagCount → t.vbu.lagCount = 0 →
    t.sau = s.sau.staled ∧ t.clc.notices.displayStale = s.clc.notices.displayStale.begins

theorem Drains.refl (s : State) : Drains s s := ⟨le_rfl, fun _ => ⟨rfl, rfl⟩, fun h h' => absurd h' h.ne'⟩

theorem Drains.trans {s t u : State} (h : Drains s t) (h' : Drains t u) : Drains s u where
  lag := h'.lag.trans h.lag
  quiet hq := by
    have l := h.lag
    have l' := h'.lag
    obtain ⟨hs, hd⟩ := h.quiet (by omega)
    obtain ⟨hs', hd'⟩ := h'.quiet (by omega)
    exact ⟨hs'.trans hs, hd'.trans hd⟩
  onset hpos hzero := by
    rcases Nat.eq_zero_or_pos t.vbu.lagCount with ht | ht
    · obtain ⟨hs, hd⟩ := h.onset hpos ht
      obtain ⟨hs', hd'⟩ := h'.quiet (.inr ht)
      exact ⟨hs'.trans hs, hd'.trans hd⟩
    · obtain ⟨hs, hd⟩ := h.quiet (.inl ht)
      obtain ⟨hs', hd'⟩ := h'.onset ht hzero
      exact ⟨hs'.trans (by rw [hs]), hd'.trans (by rw [hd])⟩

theorem drains_takeAccrual (k : Slot) {a : Accrual} {s : State} (hl : a.lag ≤ s.vbu.lagCount) :
    Drains s (takeAccrual k a s) := by
  obtain ⟨-, hsau, -⟩ := accrued_frame k a s
  have hstale : (accrued k a s).clc.notices.displayStale = s.clc.notices.displayStale := accrued_displayStale k a s
  have lag : (takeAccrual k a s).vbu.lagCount = a.lag := by rw [takeAccrual_vbu]
  refine ⟨lag ▸ hl, fun hq => ?_, fun hpos hzero => ?_⟩
  · rw [takeAccrual_eq, if_neg (by omega)]
    exact ⟨hsau, hstale⟩
  · rw [takeAccrual_eq, if_pos ⟨hpos, lag ▸ hzero⟩, staleOnset_sau, staleOnset_displayStale, hsau, hstale]
    exact ⟨rfl, rfl⟩

/-! ### A report applied slot by slot (R41) -/

section
variable {shared : Bool} {metres : Nat}

theorem accrueSlot_running {acc : State × Bool} {k : Slot} {h : Hire} (he : acc.1.hire k = some h) (hr : h.state = .running) :
    accrueSlot shared metres acc k =
      (takeAccrual k (accrue (activeSet acc.1) shared metres acc.1.vbu.lagCount h) acc.1,
        acc.2 || (accrue (activeSet acc.1) shared metres acc.1.vbu.lagCount h).charged
          || (accrue (activeSet acc.1) shared metres acc.1.vbu.lagCount h).switched) := by
  simp only [accrueSlot, he]
  exact if_pos hr

theorem accrueSlot_idle {acc : State × Bool} {k : Slot} (hr : acc.1.hireState k ≠ some .running) :
    accrueSlot shared metres acc k = acc := by
  unfold accrueSlot
  split
  · next h he => exact if_neg fun hs => hr (by rw [State.hireState, he, Option.map_some, hs])
  · rfl

/-- A slot's RUNNING hire, or that it has none. -/
theorem running_or_idle (s : State) (k : Slot) :
    (∃ h, s.hire k = some h ∧ h.state = .running) ∨ s.hireState k ≠ some .running := by
  rw [or_iff_not_imp_right, not_not, State.hireState, Option.map_eq_some_iff]
  exact id

theorem accrueSlot_slotPart_ne {j k : Slot} (hj : j ≠ k) (acc : State × Bool) :
    slotPart k (accrueSlot shared metres acc j).1 = slotPart k acc.1 := by
  rcases running_or_idle acc.1 j with ⟨h, he, hr⟩ | hr
  · rw [accrueSlot_running he hr]
    exact takeAccrual_slotPart_ne hj ..
  · rw [accrueSlot_idle hr]

/-- What a report's accruals leave: the hires, the notices, the count and the account apart, everything. -/
structure AccrualKeeps (s t : State) : Prop where
  vbu : t.vbu = { s.vbu with lagCount := t.vbu.lagCount }
  counter : t.fen.counter = s.fen.counter
  transit : t.transit = s.transit
  miu : t.miu = s.miu
  tfs : t.tfs = s.tfs
  stu : t.stu = s.stu
  tlc : t.tlc = s.tlc
  sgu : t.sgu = s.sgu
  piu : t.piu = s.piu
  outside : outsideKept s t

theorem AccrualKeeps.refl (s : State) : AccrualKeeps s s := ⟨rfl, rfl, rfl, rfl, rfl, rfl, rfl, rfl, rfl, rfl, rfl, rfl⟩

theorem AccrualKeeps.trans {s t u : State} (h : AccrualKeeps s t) (h' : AccrualKeeps t u) : AccrualKeeps s u where
  vbu := by rw [h'.vbu, h.vbu]
  counter := h'.counter.trans h.counter
  transit := h'.transit.trans h.transit
  miu := h'.miu.trans h.miu
  tfs := h'.tfs.trans h.tfs
  stu := h'.stu.trans h.stu
  tlc := h'.tlc.trans h.tlc
  sgu := h'.sgu.trans h.sgu
  piu := h'.piu.trans h.piu
  outside := by
    obtain ⟨hc, hb, hr⟩ := h.outside
    obtain ⟨hc', hb', hr'⟩ := h'.outside
    exact ⟨hc'.trans hc, hb'.trans hb, hr'.trans hr⟩

theorem accrualKeeps_takeAccrual (k : Slot) (a : Accrual) (s : State) : AccrualKeeps s (takeAccrual k a s) where
  vbu := by rw [takeAccrual_vbu]
  counter := takeAccrual_counter ..
  transit := takeAccrual_transit ..
  miu := takeAccrual_miu ..
  tfs := takeAccrual_tfs ..
  stu := takeAccrual_stu ..
  tlc := takeAccrual_tlc ..
  sgu := takeAccrual_sgu ..
  piu := takeAccrual_piu ..
  outside := ⟨takeAccrual_cku .., takeAccrual_rbc .., takeAccrual_smr ..⟩

theorem accrueSlot_keeps (acc : State × Bool) (k : Slot) :
    AccrualKeeps acc.1 (accrueSlot shared metres acc k).1 ∧ Drains acc.1 (accrueSlot shared metres acc k).1 := by
  rcases running_or_idle acc.1 k with ⟨h, he, hr⟩ | hr
  · rw [accrueSlot_running he hr]
    exact ⟨accrualKeeps_takeAccrual .., drains_takeAccrual k (accrue_keeps ..).2.2⟩
  · rw [accrueSlot_idle hr]
    exact ⟨.refl _, .refl _⟩

theorem foldl_accrueSlot_keeps (l : List Slot) (acc : State × Bool) :
    AccrualKeeps acc.1 (l.foldl (accrueSlot shared metres) acc).1 ∧ Drains acc.1 (l.foldl (accrueSlot shared metres) acc).1 := by
  induction l generalizing acc with
  | nil => exact ⟨.refl _, .refl _⟩
  | cons k l ih =>
    obtain ⟨hk, hd⟩ := accrueSlot_keeps (shared := shared) (metres := metres) acc k
    obtain ⟨hk', hd'⟩ := ih (accrueSlot shared metres acc k)
    exact ⟨hk.trans hk', hd.trans hd'⟩

end

/-- A report applied to the first slots, so many as the number says (R41). -/
def reportAfter (shared : Bool) (metres : Nat) (s : State) (i : Nat) : State × Bool :=
  (Slot.all.take i).foldl (accrueSlot shared metres) (s, false)

section
variable {shared : Bool} {metres : Nat} {s : State}

theorem reportAfter_succ (k : Slot) : reportAfter shared metres s (k.toNat + 1) =
    accrueSlot shared metres (reportAfter shared metres s k.toNat) k := by cases k <;> rfl

theorem reportAfter_before (k : Slot) : slotPart k (reportAfter shared metres s k.toNat).1 = slotPart k s :=
  foldl_of_not_mem (read := fun acc : State × Bool => slotPart k acc.1) (fun acc _ hj => accrueSlot_slotPart_ne hj acc)
    (by cases k <;> decide) (s, false)

theorem reportAfter_end (k : Slot) : slotPart k (reportAfter shared metres s 4).1
    = slotPart k (reportAfter shared metres s (k.toNat + 1)).1 := by
  have split : reportAfter shared metres s 4 =
      (Slot.all.drop (k.toNat + 1)).foldl (accrueSlot shared metres) (reportAfter shared metres s (k.toNat + 1)) := by
    cases k <;> rfl
  rw [split]
  exact foldl_of_not_mem (read := fun acc : State × Bool => slotPart k acc.1) (fun acc _ hj => accrueSlot_slotPart_ne hj acc)
    (by cases k <;> decide) _

theorem reportAfter_keeps (i : Nat) :
    AccrualKeeps s (reportAfter shared metres s i).1 ∧ Drains s (reportAfter shared metres s i).1 :=
  foldl_accrueSlot_keeps _ (s, false)

end

/-- The accrual of a slot's RUNNING hire in a report. -/
def reportAccrual (shared : Bool) (metres : Nat) (s : State) (k : Slot) (h : Hire) : Accrual :=
  accrue (activeSet s) shared metres (reportAfter shared metres s k.toNat).1.vbu.lagCount h

/-- Does a report charge a slot's hire a step or switch its tariff (R61)? -/
def reportMoves (shared : Bool) (metres : Nat) (s : State) (k : Slot) : Bool :=
  (s.hire k).any fun h => h.state == .running
    && ((reportAccrual shared metres s k h).charged || (reportAccrual shared metres s k h).switched)

section
variable {shared : Bool} {metres : Nat} {s : State}

theorem reportMoves_running {k : Slot} {h : Hire} (he : s.hire k = some h) (hr : h.state = .running) :
    reportMoves shared metres s k
      = ((reportAccrual shared metres s k h).charged || (reportAccrual shared metres s k h).switched) := by
  simp [reportMoves, he, hr]

theorem reportMoves_idle {k : Slot} (hr : s.hireState k ≠ some .running) : reportMoves shared metres s k = false := by
  cases he : s.hire k with
  | none => rw [reportMoves, he]; rfl
  | some h =>
    have hs : h.state ≠ .running := fun e => hr (by rw [State.hireState, he, Option.map_some, e])
    simp [reportMoves, he, hs]

theorem reportAfter_hire (k : Slot) : (reportAfter shared metres s k.toNat).1.hire k = s.hire k :=
  congrArg Prod.fst (reportAfter_before k)

theorem reportAfter_succ_running {k : Slot} {h : Hire} (he : s.hire k = some h) (hr : h.state = .running) :
    reportAfter shared metres s (k.toNat + 1) =
      (takeAccrual k (reportAccrual shared metres s k h) (reportAfter shared metres s k.toNat).1,
        (reportAfter shared metres s k.toNat).2 || reportMoves shared metres s k) := by
  have set : activeSet (reportAfter shared metres s k.toNat).1 = activeSet s :=
    by rw [activeSet, (reportAfter_keeps k.toNat).1.tfs]; rfl
  rw [reportAfter_succ, accrueSlot_running ((reportAfter_hire k).trans he) hr, set, reportMoves_running he hr, Bool.or_assoc]
  rfl

theorem reportAfter_succ_idle {k : Slot} (hr : s.hireState k ≠ some .running) :
    reportAfter shared metres s (k.toNat + 1) = reportAfter shared metres s k.toNat := by
  refine (reportAfter_succ k).trans (accrueSlot_idle ?_)
  rw [State.hireState, reportAfter_hire]
  exact hr

theorem reportAfter_moved (k : Slot) : (reportAfter shared metres s (k.toNat + 1)).2 =
    ((reportAfter shared metres s k.toNat).2 || reportMoves shared metres s k) := by
  rcases running_or_idle s k with ⟨h, he, hr⟩ | hr
  · rw [reportAfter_succ_running he hr]
  · rw [reportAfter_succ_idle hr, reportMoves_idle hr, Bool.or_false]

/-- A slot without a RUNNING hire in a report. -/
theorem report_idle {k : Slot} (hr : s.hireState k ≠ some .running) :
    slotPart k (reportAfter shared metres s 4).1 = slotPart k s ∧
      (reportAfter shared metres s (k.toNat + 1)).1.vbu.lagCount = (reportAfter shared metres s k.toNat).1.vbu.lagCount ∧
      reportMoves shared metres s k = false :=
  ⟨by rw [reportAfter_end, reportAfter_succ_idle hr, reportAfter_before], by rw [reportAfter_succ_idle hr],
    reportMoves_idle hr⟩

/-- A slot with a RUNNING hire in a report. -/
theorem report_running {k : Slot} {h : Hire} {a : Accrual} {n : Notice} (he : s.hire k = some h) (hr : h.state = .running)
    (ha : a = reportAccrual shared metres s k h)
    (hn : n = if a.forgone then (s.clc.notices.get (hireKind k)).addReason 6 else s.clc.notices.get (hireKind k)) :
    slotPart k (reportAfter shared metres s 4).1 = (some a.hire, if a.switched then n.addReason 1 else n) ∧
      (reportAfter shared metres s (k.toNat + 1)).1.vbu.lagCount = a.lag ∧
      reportMoves shared metres s k = (a.charged || a.switched) := by
  have notice : (reportAfter shared metres s k.toNat).1.clc.notices.get (hireKind k) = s.clc.notices.get (hireKind k) :=
    congrArg Prod.snd (reportAfter_before k)
  subst hn
  refine ⟨?_, ?_, ha ▸ reportMoves_running he hr⟩
  · rw [reportAfter_end, reportAfter_succ_running he hr, takeAccrual_slotPart, ← ha, notice]
  · rw [reportAfter_succ_running he hr, takeAccrual_vbu, ← ha]

/-- One composition follows the accruals of a report when one of them charged a step or switched a tariff (R61). -/
theorem reportAfter_composes : (reportAfter shared metres s 4).2 =
    (reportMoves shared metres s .s0 || reportMoves shared metres s .s1 || reportMoves shared metres s .s2
      || reportMoves shared metres s .s3) := by
  rw [show (4 : Nat) = Slot.s3.toNat + 1 from rfl, reportAfter_moved, show Slot.s3.toNat = Slot.s2.toNat + 1 from rfl,
    reportAfter_moved, show Slot.s2.toNat = Slot.s1.toNat + 1 from rfl, reportAfter_moved,
    show Slot.s1.toNat = Slot.s0.toNat + 1 from rfl, reportAfter_moved]
  rfl

end

/-- A NORMAL report: the accruals, with the composition that may follow written into the transit. -/
theorem applyReport_normal {r : SecondReport} {shared : Bool} {s t : State} (hm : r.mark = .normal)
    (hs : shared = decide (2 ≤ runningCount s.fen.slots)) (ht : t = (reportAfter shared r.metres s 4).1) :
    applyReport r s = t.setTransit { t.transit with
      vbu := t.transit.vbu ++
        if reportMoves shared r.metres s .s0 || reportMoves shared r.metres s .s1 || reportMoves shared r.metres s .s2
          || reportMoves shared r.metres s .s3 then [viewEntries t.fen.slots] else [] } := by
  have applied : applyReport r s =
      if (reportAfter shared r.metres s 4).2 then compose (reportAfter shared r.metres s 4).1
      else (reportAfter shared r.metres s 4).1 := by subst hs; exact if_pos hm
  rw [applied, reportAfter_composes, ← ht]
  split
  · rfl
  · rw [List.append_nil]
    rfl

theorem applyReport_drains (r : SecondReport) (s : State) : Drains s (applyReport r s) := by
  by_cases hm : r.mark = .normal
  · obtain ⟨hl, hq, ho⟩ := (reportAfter_keeps (shared := 2 ≤ runningCount s.fen.slots) (metres := r.metres) (s := s) 4).2
    rw [applyReport_normal hm rfl rfl]
    exact ⟨hl, hq, ho⟩
  · rw [applyReport, if_neg hm]
    exact .refl s

theorem fenSecondReport_takes {s : State} {r : SecondReport} {rest : List FenEvent} (hp : powered s = true)
    (hfirst : s.transit.fen = .report r :: rest) :
    exec .fenSecondReport s = .next (applyReport r (s.setTransit { s.transit with fen := rest })) := by
  rw [exec_event (c := .fenSecondReport) rfl hp, takeFenEvent, hfirst]
  rfl

theorem displayStaleOnset_takes {s : State} {r : SecondReport} {rest : List FenEvent} (hp : powered s = true)
    (hfirst : s.transit.fen = .report r :: rest) (hlag : 0 < s.vbu.lagCount)
    (hzero : (applyReport r (s.setTransit { s.transit with fen := rest })).vbu.lagCount = 0) :
    exec .displayStaleOnset s = .next (applyReport r (s.setTransit { s.transit with fen := rest })) := by
  have first : firstReport s = some (r, s.setTransit { s.transit with fen := rest }) := by rw [firstReport, hfirst]; rfl
  have ahead : onsetAhead s = true := by simp [onsetAhead, first, hlag, hzero]
  rw [exec_event (c := .displayStaleOnset) rfl hp]
  simp only [first]
  rw [if_pos ahead]

/-- Settles O24. -/
theorem reportIsAppliedToRunningHires : Obligations.ReportIsAppliedToRunningHires := by
  unfold Obligations.ReportIsAppliedToRunningHires
  refine ⟨fun s r rest hp hfirst => ⟨fun hm => ?discarded, fun hm => ?applied⟩, fun s r rest hp hfirst hlag hshift hzero => ?onset⟩
  case discarded => rw [fenSecondReport_takes hp hfirst, applyReport, if_neg hm]
  case applied =>
    have taken := fenSecondReport_takes hp hfirst
    generalize hs : s.setTransit { s.transit with fen := rest } = s' at taken
    generalize hshared : decide (2 ≤ runningCount s'.fen.slots) = shared
    obtain ⟨keeps, drains⟩ := reportAfter_keeps (shared := shared) (metres := r.metres) (s := s') 4
    generalize ht : (reportAfter shared r.metres s' 4).1 = t at keeps drains
    rw [applyReport_normal hm hshared.symm ht.symm] at taken
    subst hs
    refine ⟨_, fun i => (reportAfter shared r.metres (s.setTransit { s.transit with fen := rest }) i).1.vbu.lagCount,
      reportMoves shared r.metres (s.setTransit { s.transit with fen := rest }), taken, rfl, ?vbu, fun k hr => ?idle,
      fun k h a n he hr ha hn => ?running, ?transit, fun hq => drains.quiet (ht ▸ hq), keeps.counter, keeps.miu, keeps.tfs,
      keeps.stu, keeps.tlc, keeps.sgu, keeps.piu, keeps.outside⟩
    case vbu => exact keeps.vbu.trans (by subst ht; rfl)
    case transit => rw [State.setTransit_transit, keeps.transit]; rfl
    case idle =>
      obtain ⟨hpart, hlag, hmoved⟩ := report_idle (shared := shared) (metres := r.metres)
        (s := s.setTransit { s.transit with fen := rest }) hr
      rw [ht] at hpart
      exact ⟨congrArg Prod.fst hpart, hlag, hmoved, congrArg Prod.snd hpart⟩
    case running =>
      obtain ⟨hpart, hlag, hmoved⟩ := report_running (shared := shared) (metres := r.metres)
        (s := s.setTransit { s.transit with fen := rest }) he hr (by rw [ha, ← hshared]; rfl) hn
      rw [ht] at hpart
      exact ⟨congrArg Prod.fst hpart, hlag, hmoved, congrArg Prod.snd hpart⟩
  case onset =>
    obtain ⟨hsau, hstale⟩ := (applyReport_drains r (s.setTransit { s.transit with fen := rest })).onset hlag hzero
    refine ⟨_, displayStaleOnset_takes hp hfirst hlag hzero, hzero, by rw [hstale]; rfl, fun hon => ?_, ?_,
      fenSecondReport_takes hp hfirst⟩
    · rw [hstale]
      exact Bool.or_eq_true_iff.2 (.inr hon)
    · rw [hsau, Sau.staled, if_neg (by rw [State.setTransit_sau, hshift]; decide)]
      rfl

end Sys2Proof.Machine

/-! ## The steps of an accrual (R42 to R46, R73) -/

namespace Sys2Proof.Machine

/-! ### Falling steps, one at a time -/

section
variable {set : TariffSet} {shared : Bool}

theorem nextStep_distance {t : Tariff} {h : Hire} (hd : t.stepDistance ≤ h.distSince) :
    nextStep t h = some { h with distSince := h.distSince - t.stepDistance, waitSince := 0 } := if_pos hd

theorem nextStep_wait {t : Tariff} {h : Hire} (hd : h.distSince < t.stepDistance) (hw : t.stepWait ≤ h.waitSince) :
    nextStep t h = some { h with distSince := 0, waitSince := 0 } := by
  rw [nextStep, if_neg (Nat.not_le.2 hd), if_pos hw]

theorem nextStep_none {t : Tariff} {h : Hire} (hd : h.distSince < t.stepDistance) (hw : h.waitSince < t.stepWait) :
    nextStep t h = none := by
  rw [nextStep, if_neg (Nat.not_le.2 hd), if_neg (Nat.not_le.2 hw)]

theorem fallSteps_step {fuel : Nat} {a : Accrual} {t : Tariff} {g : Hire} (ht : set.tariff? a.hire.tariff = some t)
    (hg : nextStep t a.hire = some g) : fallSteps set shared (fuel + 1) a
      = fallSteps set shared fuel (switchTariff (chargeStep (stepCost shared t) { a with hire := g })) := by
  simp only [fallSteps, ht, hg]

theorem fallSteps_below {fuel : Nat} {a : Accrual} {t : Tariff} (ht : set.tariff? a.hire.tariff = some t)
    (hd : a.hire.distSince < t.stepDistance) (hw : a.hire.waitSince < t.stepWait) : fallSteps set shared fuel a = a := by
  cases fuel with
  | zero => rfl
  | succ fuel => simp only [fallSteps, ht, nextStep_none hd hw]

/-- With both counters cleared no step falls. -/
theorem fallSteps_cleared {fuel : Nat} {a : Accrual} (hset : ∀ q ∈ set.tariffs, 1 ≤ q.stepDistance ∧ 1 ≤ q.stepWait)
    (hd : a.hire.distSince = 0) (hw : a.hire.waitSince = 0) : fallSteps set shared fuel a = a := by
  cases ht : set.tariff? a.hire.tariff with
  | none =>
    cases fuel with
    | zero => rfl
    | succ fuel => simp only [fallSteps, ht]
  | some t =>
    obtain ⟨hpd, hpw⟩ := hset t (List.mem_of_find?_eq_some ht)
    exact fallSteps_below ht (by omega) (by omega)

theorem accrue_eq {metres lag : Nat} {h : Hire} {r : Tariff} (hr : set.tariff? h.tariff = some r) :
    accrue set shared metres lag h = fallSteps set shared ((credit r metres h).distSince + 2)
      ⟨credit r metres h, lag, false, false, false⟩ := by
  simp only [accrue, hr]

theorem credit_distance {r : Tariff} {metres : Nat} (h : Hire) (hx : r.crossover ≤ metres) : credit r metres h =
    { h with distSince := h.distSince + metres, hiredDistance := min (h.hiredDistance + metres) 4294967295 } := if_pos hx

theorem credit_wait {r : Tariff} {metres : Nat} (h : Hire) (hx : metres < r.crossover) : credit r metres h =
    { h with waitSince := h.waitSince + 1, waitSeconds := min (h.waitSeconds + 1) 4294967295 } := if_neg (Nat.not_le.2 hx)

/-! ### Steps in number (R45) -/

theorem satAdd_satAdd (max a b c : Nat) : satAdd max (satAdd max a b) c = satAdd max a (b + c) := by
  unfold satAdd
  omega

theorem satAdd_zero {max a : Nat} (h : a ≤ max) : satAdd max a 0 = a := min_eq_left h

/-- Steps charged or forgone against the count: as many as it allows are charged (R45). -/
def chargeSteps (n cost : Nat) (a : Accrual) : Accrual :=
  ⟨{ a.hire with
      fare := satAdd maxFare a.hire.fare (min n a.lag * cost), charged := satAdd max16 a.hire.charged (min n a.lag)
      forgone := satAdd max16 a.hire.forgone (n - a.lag)
      forgoneAmount := satAdd maxAmount a.hire.forgoneAmount ((n - a.lag) * cost) },
    a.lag - n, a.charged || decide (0 < min n a.lag), a.forgone || decide (a.lag < n), a.switched⟩

/-- A hire's sums within their maxima (section 6.2). -/
structure Hire.Within (h : Hire) : Prop where
  fare : h.fare ≤ maxFare
  charged : h.charged ≤ max16
  forgone : h.forgone ≤ max16
  forgoneAmount : h.forgoneAmount ≤ maxAmount

theorem chargeSteps_zero {cost : Nat} {a : Accrual} (h : a.hire.Within) : chargeSteps 0 cost a = a := by
  obtain ⟨hf, hc, hg, ha⟩ := h
  simp [chargeSteps, satAdd_zero hf, satAdd_zero hc, satAdd_zero hg, satAdd_zero ha]

/-- One step with the count at 0, or above it. -/
theorem chargeStep_eq {cost : Nat} {a : Accrual} (h : a.hire.Within) : chargeStep cost a = chargeSteps 1 cost a := by
  obtain ⟨hf, hc, hg, ha⟩ := h
  rcases Nat.eq_zero_or_pos a.lag with hl | hl
  · simp [chargeStep, chargeSteps, hl, satAdd_zero hf, satAdd_zero hc]
  · have spent : 1 - a.lag = 0 := by omega
    have one : min 1 a.lag = 1 := by omega
    simp [chargeStep, chargeSteps, hl, spent, one, satAdd_zero hg, satAdd_zero ha]
    omega

theorem chargeSteps_add (m n cost : Nat) (a : Accrual) : chargeSteps n cost (chargeSteps m cost a) = chargeSteps (m + n) cost a := by
  have charged : min m a.lag + min n (a.lag - m) = min (m + n) a.lag := by omega
  have forgone : (m - a.lag) + (n - (a.lag - m)) = m + n - a.lag := by omega
  have hcharged : (a.charged || decide (0 < min m a.lag) || decide (0 < min n (a.lag - m)))
      = (a.charged || decide (0 < min (m + n) a.lag)) := by
    rw [Bool.or_assoc, ← Bool.decide_or, ← charged]
    simp only [Nat.add_pos_iff_pos_or_pos]
  have hforgone : (a.forgone || decide (a.lag < m) || decide (a.lag - m < n)) = (a.forgone || decide (a.lag < m + n)) := by
    rw [Bool.or_assoc, ← Bool.decide_or]
    congr 2
    exact propext (by omega)
  simp only [chargeSteps, satAdd_satAdd, ← Nat.add_mul, charged, forgone, Nat.sub_sub]
  exact congrArg₂ (fun c f => (⟨_, _, c, f, _⟩ : Accrual)) hcharged hforgone

/-! ### A report's metres against the thresholds (R43, R46) -/

/-- The counters of a hire, replaced. -/
def Accrual.count (a : Accrual) (d w : Nat) : Accrual := { a with hire := { a.hire with distSince := d, waitSince := w } }

theorem switchTariff_none {a : Accrual} (h : a.hire.pending = none) : switchTariff a = a := by
  simp only [switchTariff, h]

theorem switchTariff_some {a : Accrual} {p : Nat} (h : a.hire.pending = some p) : switchTariff a = { a with
    switched := true, hire := { a.hire with tariff := p, pending := none, distSince := 0, waitSince := 0 } } := by
  simp only [switchTariff, h]

theorem chargeSteps_within {n cost : Nat} (a : Accrual) (d w : Nat) : ((chargeSteps n cost a).count d w).hire.Within :=
  ⟨min_le_right .., min_le_right .., min_le_right .., min_le_right ..⟩

theorem fallSteps_stepsOne {fuel d w : Nat} {a : Accrual} {t : Tariff} (hwithin : a.hire.Within)
    (ht : set.tariff? a.hire.tariff = some t)
    (hg : nextStep t a.hire = some { a.hire with distSince := d, waitSince := w }) : fallSteps set shared (fuel + 1) a
      = fallSteps set shared fuel (switchTariff ((chargeSteps 1 (stepCost shared t) a).count d w)) := by
  have charge : chargeStep (stepCost shared t) (a.count d w) = chargeSteps 1 (stepCost shared t) (a.count d w) :=
    chargeStep_eq ⟨hwithin.fare, hwithin.charged, hwithin.forgone, hwithin.forgoneAmount⟩
  exact (fallSteps_step ht hg).trans (congrArg (fun x => fallSteps set shared fuel (switchTariff x)) charge)

/-- Distance steps without a pending tariff: as many fall as the thresholds in the distance (R43, R45). -/
theorem fallSteps_distance {r : Tariff} {fuel : Nat} {a : Accrual} (ht : set.tariff? a.hire.tariff = some r)
    (hd : 1 ≤ r.stepDistance) (hw : a.hire.waitSince < r.stepWait) (hp : a.hire.pending = none) (hwithin : a.hire.Within)
    (hfuel : a.hire.distSince < fuel) : fallSteps set shared fuel a =
      (chargeSteps (a.hire.distSince / r.stepDistance) (stepCost shared r) a).count (a.hire.distSince % r.stepDistance)
        (if a.hire.distSince / r.stepDistance = 0 then a.hire.waitSince else 0) := by
  induction fuel generalizing a with
  | zero => omega
  | succ fuel ih =>
    by_cases hb : a.hire.distSince < r.stepDistance
    · rw [fallSteps_below ht hb hw, Nat.div_eq_of_lt hb, Nat.mod_eq_of_lt hb, chargeSteps_zero hwithin]
      rfl
    · have hb := Nat.le_of_not_lt hb
      have quotient : a.hire.distSince / r.stepDistance = 1 + (a.hire.distSince - r.stepDistance) / r.stepDistance := by
        rw [Nat.div_eq_sub_div hd hb, Nat.add_comm]
      generalize ha : (chargeSteps 1 (stepCost shared r) a).count (a.hire.distSince - r.stepDistance) 0 = b
      have falls : fallSteps set shared (fuel + 1) a = fallSteps set shared fuel b := by
        rw [fallSteps_stepsOne hwithin ht (nextStep_distance hb), ha, switchTariff_none (ha ▸ hp)]
      have dist : b.hire.distSince = a.hire.distSince - r.stepDistance := ha ▸ rfl
      have wait : b.hire.waitSince = 0 := ha ▸ rfl
      rw [falls, ih (a := b) (ha ▸ ht) (by omega) (ha ▸ hp) (ha ▸ chargeSteps_within ..) (by omega), dist, wait, quotient,
        ← Nat.mod_eq_sub_mod hb, ← chargeSteps_add, ite_self,
        if_neg (Nat.ne_of_gt (Nat.add_pos_left Nat.one_pos _)), ← ha]
      rfl

/-- What a first step that switches the tariff leaves (R46). -/
theorem fallSteps_switches {r : Tariff} {fuel d w p : Nat} {a : Accrual} (hset : ∀ q ∈ set.tariffs, 1 ≤ q.stepDistance ∧ 1 ≤ q.stepWait)
    (ht : set.tariff? a.hire.tariff = some r) (hp : a.hire.pending = some p) (hwithin : a.hire.Within)
    (hg : nextStep r a.hire = some { a.hire with distSince := d, waitSince := w }) :
    fallSteps set shared (fuel + 1) a = switchTariff (chargeSteps 1 (stepCost shared r) a) := by
  have pending : (chargeSteps 1 (stepCost shared r) a).hire.pending = some p := hp
  have counted : ((chargeSteps 1 (stepCost shared r) a).count d w).hire.pending = some p := hp
  rw [fallSteps_stepsOne hwithin ht hg, switchTariff_some counted, switchTariff_some pending]
  exact fallSteps_cleared hset rfl rfl

/-- A wait step without a pending tariff (R43). -/
theorem fallSteps_wait {r : Tariff} {fuel : Nat} {a : Accrual} (hset : ∀ q ∈ set.tariffs, 1 ≤ q.stepDistance ∧ 1 ≤ q.stepWait)
    (ht : set.tariff? a.hire.tariff = some r) (hp : a.hire.pending = none) (hwithin : a.hire.Within)
    (hd : a.hire.distSince < r.stepDistance) (hw : r.stepWait ≤ a.hire.waitSince) :
    fallSteps set shared (fuel + 1) a = (chargeSteps 1 (stepCost shared r) a).count 0 0 := by
  have counted : ((chargeSteps 1 (stepCost shared r) a).count 0 0).hire.pending = none := hp
  rw [fallSteps_stepsOne hwithin ht (nextStep_wait hd hw), switchTariff_none counted]
  exact fallSteps_cleared hset rfl rfl

/-! ### The count and the fare (R45, R73) -/

/-- What charged steps do: the count falls, the fare rises with it, and at count 0 nothing is charged. -/
structure Draws (a b : Accrual) : Prop where
  cap : b.hire.fare ≤ maxFare
  lag : b.lag ≤ a.lag
  fare : a.hire.fare ≤ b.hire.fare
  dry : a.lag = 0 → b.hire.fare = a.hire.fare ∧ b.hire.charged = a.hire.charged ∧ b.charged = a.charged
  still : b.lag = a.lag → b.hire.fare = a.hire.fare

theorem Draws.refl {a : Accrual} (h : a.hire.fare ≤ maxFare) : Draws a a :=
  ⟨h, le_rfl, le_rfl, fun _ => ⟨rfl, rfl, rfl⟩, fun _ => rfl⟩

theorem Draws.trans {a b c : Accrual} (h : Draws a b) (h' : Draws b c) : Draws a c where
  cap := h'.cap
  lag := h'.lag.trans h.lag
  fare := h.fare.trans h'.fare
  dry hz := by
    obtain ⟨hf, hc, hb⟩ := h.dry hz
    obtain ⟨hf', hc', hb'⟩ := h'.dry (Nat.le_zero.1 (hz ▸ h.lag))
    exact ⟨hf'.trans hf, hc'.trans hc, hb'.trans hb⟩
  still he := by
    have l := h.lag
    have l' := h'.lag
    exact (h'.still (by omega)).trans (h.still (by omega))

theorem draws_chargeStep (cost : Nat) {a : Accrual} (h : a.hire.fare ≤ maxFare) : Draws a (chargeStep cost a) := by
  unfold chargeStep
  split
  · next hl =>
    refine ⟨min_le_right .., Nat.sub_le .., le_min (Nat.le_add_right ..) h, fun hz => ?_, fun he => ?_⟩
    · omega
    · dsimp only at he
      omega
  · exact ⟨h, le_rfl, le_rfl, fun _ => ⟨rfl, rfl, rfl⟩, fun _ => rfl⟩

theorem draws_switchTariff {a b : Accrual} (h : Draws a b) : Draws a (switchTariff b) := by
  unfold switchTariff
  split
  · exact h
  · exact ⟨h.cap, h.lag, h.fare, h.dry, h.still⟩

theorem nextStep_fare {t : Tariff} {h g : Hire} (e : nextStep t h = some g) : g.fare = h.fare ∧ g.charged = h.charged := by
  unfold nextStep at e
  split_ifs at e <;> (obtain rfl := Option.some.inj e; exact ⟨rfl, rfl⟩)

theorem draws_fallSteps (fuel : Nat) {a : Accrual} (h : a.hire.fare ≤ maxFare) : Draws a (fallSteps set shared fuel a) := by
  induction fuel generalizing a with
  | zero => exact .refl h
  | succ fuel ih =>
    unfold fallSteps
    split
    · exact .refl h
    · next t _ =>
      split
      · exact .refl h
      · next g hg =>
        obtain ⟨hf, hc⟩ := nextStep_fare hg
        have counted : Draws a { a with hire := g } :=
          ⟨hf ▸ h, le_rfl, le_of_eq hf.symm, fun _ => ⟨hf, hc, rfl⟩, fun _ => hf⟩
        have charged := draws_switchTariff (draws_chargeStep (stepCost shared t) counted.cap)
        exact (counted.trans charged).trans (ih charged.cap)

theorem credit_fare (t : Tariff) (metres : Nat) (h : Hire) :
    (credit t metres h).fare = h.fare ∧ (credit t metres h).charged = h.charged := by
  unfold credit
  split <;> exact ⟨rfl, rfl⟩

theorem draws_accrue {metres lag : Nat} {h : Hire} (hf : h.fare ≤ maxFare) :
    Draws ⟨h, lag, false, false, false⟩ (accrue set shared metres lag h) := by
  cases hr : set.tariff? h.tariff with
  | none =>
    simp only [accrue, hr]
    exact .refl hf
  | some r =>
    obtain ⟨hfare, hcharged⟩ := credit_fare r metres h
    rw [accrue_eq hr]
    have credited : Draws ⟨h, lag, false, false, false⟩ ⟨credit r metres h, lag, false, false, false⟩ :=
      ⟨hfare ▸ hf, le_rfl, le_of_eq hfare.symm, fun _ => ⟨hfare, hcharged, rfl⟩, fun _ => hfare⟩
    exact credited.trans (draws_fallSteps _ credited.cap)

/-! ### The counters end below the thresholds (R43, section 3.1) -/

/-- A step's charge leaves the counters, a switch clears them. -/
theorem switchTariff_chargeStep_counters (cost : Nat) (a : Accrual) :
    (switchTariff (chargeStep cost a)).hire.distSince = a.hire.distSince
        ∧ (switchTariff (chargeStep cost a)).hire.waitSince = a.hire.waitSince ∨
      (switchTariff (chargeStep cost a)).hire.distSince = 0 ∧ (switchTariff (chargeStep cost a)).hire.waitSince = 0 := by
  unfold switchTariff
  split
  · refine .inl ?_
    unfold chargeStep
    split <;> exact ⟨rfl, rfl⟩
  · exact .inr ⟨rfl, rfl⟩

/-- Steps that fall until none can: enough fuel, or nothing to fall. -/
theorem fallSteps_ends {fuel : Nat} {a : Accrual} {t : Tariff} (hset : ∀ q ∈ set.tariffs, 1 ≤ q.stepDistance ∧ 1 ≤ q.stepWait)
    (hfuel : a.hire.distSince < fuel ∨ a.hire.distSince = 0 ∧ a.hire.waitSince = 0)
    (ht : set.tariff? (fallSteps set shared fuel a).hire.tariff = some t) :
    (fallSteps set shared fuel a).hire.distSince < t.stepDistance
      ∧ (fallSteps set shared fuel a).hire.waitSince < t.stepWait := by
  induction fuel generalizing a with
  | zero =>
    obtain ⟨hd, hw⟩ := hset t (List.mem_of_find?_eq_some ht)
    obtain ⟨hd', hw'⟩ := hfuel.resolve_left (Nat.not_lt_zero _)
    exact ⟨lt_of_eq_of_lt hd' hd, lt_of_eq_of_lt hw' hw⟩
  | succ fuel ih =>
    cases hr : set.tariff? a.hire.tariff with
    | none =>
      simp only [fallSteps, hr] at ht
      exact nomatch ht
    | some r =>
      obtain ⟨hrd, hrw⟩ := hset r (List.mem_of_find?_eq_some hr)
      by_cases hd : r.stepDistance ≤ a.hire.distSince
      · rw [fallSteps_step hr (nextStep_distance hd)] at ht ⊢
        refine ih ?_ ht
        rcases switchTariff_chargeStep_counters (stepCost shared r)
            (a.count (a.hire.distSince - r.stepDistance) 0) with ⟨hd', -⟩ | cleared
        · left
          refine lt_of_eq_of_lt hd' (show a.hire.distSince - r.stepDistance < fuel by omega)
        · exact .inr cleared
      · by_cases hw : r.stepWait ≤ a.hire.waitSince
        · rw [fallSteps_step hr (nextStep_wait (Nat.lt_of_not_le hd) hw)] at ht ⊢
          exact ih (.inr ((switchTariff_chargeStep_counters (stepCost shared r) (a.count 0 0)).elim id id)) ht
        · rw [fallSteps_below hr (Nat.lt_of_not_le hd) (Nat.lt_of_not_le hw)] at ht ⊢
          obtain rfl := Option.some.inj (hr.symm.trans ht)
          exact ⟨Nat.lt_of_not_le hd, Nat.lt_of_not_le hw⟩

theorem accrue_ends {metres lag : Nat} {h : Hire} {t : Tariff} (hset : ∀ q ∈ set.tariffs, 1 ≤ q.stepDistance ∧ 1 ≤ q.stepWait)
    (hh : set.tariff? h.tariff ≠ none) (ht : set.tariff? (accrue set shared metres lag h).hire.tariff = some t) :
    (accrue set shared metres lag h).hire.distSince < t.stepDistance
      ∧ (accrue set shared metres lag h).hire.waitSince < t.stepWait := by
  obtain ⟨r, hr⟩ := Option.ne_none_iff_exists'.1 hh
  rw [accrue_eq hr] at ht ⊢
  exact fallSteps_ends hset (.inl (Nat.lt_add_of_pos_right Nat.two_pos)) ht

/-! ### A report at or above the crossover, below it, and with a pending tariff -/

section
variable {metres lag : Nat} {h : Hire} {r : Tariff}

theorem credit_hire (r : Tariff) (metres : Nat) (h : Hire) :
    (credit r metres h).tariff = h.tariff ∧ (credit r metres h).pending = h.pending ∧
      (h.Within → (credit r metres h).Within) := by
  unfold credit
  split <;> exact ⟨rfl, rfl, fun w => ⟨w.fare, w.charged, w.forgone, w.forgoneAmount⟩⟩

theorem accrue_distance (hr : set.tariff? h.tariff = some r) (hd : 1 ≤ r.stepDistance) (hw : h.waitSince < r.stepWait)
    (hwithin : h.Within) (hx : r.crossover ≤ metres)
    (hp : h.pending = none ∨ (h.distSince + metres) / r.stepDistance = 0) : accrue set shared metres lag h =
      (chargeSteps ((h.distSince + metres) / r.stepDistance) (stepCost shared r)
        ⟨credit r metres h, lag, false, false, false⟩).count ((h.distSince + metres) % r.stepDistance)
        (if (h.distSince + metres) / r.stepDistance = 0 then h.waitSince else 0) := by
  obtain ⟨htariff, hpending, hcap⟩ := credit_hire r metres h
  rw [accrue_eq hr, credit_distance h hx]
  rcases hp with hp | hn
  · exact fallSteps_distance hr hd hw hp (credit_distance h hx ▸ hcap hwithin) (Nat.lt_add_of_pos_right Nat.two_pos)
  · have below : h.distSince + metres < r.stepDistance := (Nat.div_eq_zero_iff_lt hd).1 hn
    rw [hn, Nat.mod_eq_of_lt below, if_pos rfl, chargeSteps_zero (credit_distance h hx ▸ hcap hwithin)]
    exact fallSteps_below hr below hw

/-- Below the crossover the report is a wait second, and the step falls with the last of them (R42, R43). -/
theorem accrue_wait {n : Nat} (hset : ∀ q ∈ set.tariffs, 1 ≤ q.stepDistance ∧ 1 ≤ q.stepWait)
    (hr : set.tariff? h.tariff = some r) (hd : h.distSince < r.stepDistance) (hw : h.waitSince < r.stepWait)
    (hwithin : h.Within) (hx : metres < r.crossover) (hn : n = if h.waitSince + 1 = r.stepWait then 1 else 0)
    (hp : h.pending = none ∨ n = 0) : accrue set shared metres lag h =
      (chargeSteps n (stepCost shared r) ⟨credit r metres h, lag, false, false, false⟩).count
        (if n = 0 then h.distSince else 0) (if n = 0 then h.waitSince + 1 else 0) := by
  obtain ⟨htariff, hpending, hcap⟩ := credit_hire r metres h
  rw [accrue_eq hr, credit_wait h hx]
  by_cases hlast : h.waitSince + 1 = r.stepWait
  · rw [if_pos hlast] at hn
    subst hn
    exact fallSteps_wait hset hr (hp.resolve_right Nat.one_ne_zero) (credit_wait h hx ▸ hcap hwithin) hd (Nat.le_of_eq hlast.symm)
  · rw [if_neg hlast] at hn
    subst hn
    rw [chargeSteps_zero (credit_wait h hx ▸ hcap hwithin)]
    exact fallSteps_below hr hd (lt_of_le_of_ne hw hlast)

/-- The first step of a hire with a pending tariff switches to it (R46). -/
theorem accrue_pending {p : Nat} (hset : ∀ q ∈ set.tariffs, 1 ≤ q.stepDistance ∧ 1 ≤ q.stepWait)
    (hr : set.tariff? h.tariff = some r) (hd : h.distSince < r.stepDistance) (hwithin : h.Within) (hp : h.pending = some p)
    (hstep : r.crossover ≤ metres ∧ r.stepDistance ≤ h.distSince + metres ∨
      metres < r.crossover ∧ h.waitSince + 1 = r.stepWait) : accrue set shared metres lag h =
      switchTariff (chargeSteps 1 (stepCost shared r) ⟨credit r metres h, lag, false, false, false⟩) := by
  obtain ⟨htariff, hpending, hcap⟩ := credit_hire r metres h
  rw [accrue_eq hr]
  refine hstep.elim (fun ⟨hx, hdist⟩ => ?distance) fun ⟨hx, hwait⟩ => ?wait
  case distance =>
    refine fallSteps_switches hset (htariff ▸ hr) (hpending.trans hp) (hcap hwithin) (nextStep_distance ?_)
    rw [credit_distance h hx]
    exact hdist
  case wait =>
    refine fallSteps_switches hset (htariff ▸ hr) (hpending.trans hp) (hcap hwithin) (nextStep_wait ?_ ?_)
    · rw [credit_wait h hx]
      exact hd
    · rw [credit_wait h hx]
      exact Nat.le_of_eq hwait.symm

end

/-- Settles O25. -/
theorem stepsDrawOnTheLagCount : Obligations.StepsDrawOnTheLagCount := by
  unfold Obligations.StepsDrawOnTheLagCount
  refine ⟨fun set shared metres lag n cost h r hr hset hcost hd hw hfare hcharged hforgone hamount => ?counts,
    fun set shared metres lag h hfare => ?draws, fun set shared metres lag h t hset hh ht => accrue_ends hset hh ht⟩
  case draws =>
    have d := draws_accrue (set := set) (shared := shared) (metres := metres) (lag := lag) hfare
    exact ⟨d.lag, d.fare, d.dry, d.still⟩
  case counts =>
    have hcost : cost = stepCost shared r := hcost
    have hwithin : h.Within := ⟨hfare, hcharged, hforgone, hamount⟩
    have hpos := (hset r (List.mem_of_find?_eq_some hr)).1
    subst hcost
    refine ⟨fun hx hn hp => ?distance, fun hx hn hp => ?wait, fun p hp hstep => ?pending⟩
    case distance =>
      subst hn
      rw [accrue_distance hr hpos hw hwithin hx hp, credit_distance h hx]
      rfl
    case wait =>
      rw [accrue_wait hset hr hd hw hwithin hx hn hp, credit_wait h hx]
      rfl
    case pending =>
      have one : decide (0 < min 1 lag) = decide (0 < lag) := decide_eq_decide.2 (by omega)
      have dry : decide (lag < 1) = decide (lag = 0) := decide_eq_decide.2 Nat.lt_one_iff
      rw [accrue_pending hset hr hd hwithin hp hstep, ← one, ← dry]
      rcases hstep with ⟨hx, -⟩ | ⟨hx, -⟩
      · rw [credit_distance h hx, if_pos hx, if_pos hx]
        exact switchTariff_some hp
      · rw [credit_wait h hx, if_neg (Nat.not_le.2 hx), if_neg (Nat.not_le.2 hx)]
        exact switchTariff_some hp

end

end Sys2Proof.Machine

/-! ## The fare view (R67 to R71) -/

namespace Sys2Proof.Machine

/-! ### The buffers -/

theorem Vbu.get_put_same (v : Vbu) (b : BufName) (x : Option Snapshot) : (v.put b x).get b = x := by cases b <;> rfl

theorem Vbu.get_put_ne (v : Vbu) {b c : BufName} (x : Option Snapshot) (h : c ≠ b) : (v.put b x).get c = v.get c := by
  cases b <;> cases c <;> first | rfl | exact absurd rfl h

theorem Vbu.put_rest (v : Vbu) (b : BufName) (x : Option Snapshot) :
    (v.put b x).seq = v.seq ∧ (v.put b x).lagLimit = v.lagLimit ∧ (v.put b x).overwritten = v.overwritten := by
  cases b <;> exact ⟨rfl, rfl, rfl⟩

theorem composition_takes {s : State} {entries : Four (Option ViewEntry)} {rest : List (Four (Option ViewEntry))}
    (hp : powered s = true) (h : s.transit.vbu = entries :: rest) : exec .composition s =
      .next ((s.setTransit { s.transit with vbu := rest }).setVbu (s.vbu.compose s.cku.now entries)) := by
  rw [exec_event (c := .composition) rfl hp]
  simp only [takeComposition, h]

/-- Settles O26. -/
theorem compositionExchangesWriteAndReady : Obligations.CompositionExchangesWriteAndReady := by
  unfold Obligations.CompositionExchangesWriteAndReady
  rintro s entries rest hp h ⟨-, -, hwc⟩
  obtain ⟨hlag, hwrite, hready, hconsole⟩ := s.vbu.put_roles s.vbu.write (some ⟨(s.vbu.seq + 1) % 65536, s.cku.now, entries⟩)
  obtain ⟨-, hlimit, -⟩ := s.vbu.put_rest s.vbu.write (some ⟨(s.vbu.seq + 1) % 65536, s.cku.now, entries⟩)
  refine ⟨_, composition_takes hp h, rfl, rfl, rfl, rfl, hconsole, Vbu.get_put_same .., ?_, rfl, hlag, hlimit, rfl, rfl, rfl, rfl,
    rfl, rfl, rfl⟩
  exact (congrArg _ hconsole).trans (Vbu.get_put_ne _ _ hwc.symm)

/-! ### TAKE_VIEW and SHOWN -/

theorem Vbu.take_some {v : Vbu} (h : (v.get v.ready).isSome = true) :
    v.take = { v.put v.console none with ready := v.console, console := v.ready } := if_pos h

theorem Vbu.take_none {v : Vbu} (h : (v.get v.ready).isSome = false) : v.take = v := if_neg (h ▸ Bool.false_ne_true)

/-- What a taking leaves of the buffers and their roles (R68). -/
theorem Vbu.take_spec (v : Vbu) (hrc : v.ready ≠ v.console) (hwc : v.write ≠ v.console) :
    v.take.get v.take.ready = none ∧
      ((v.get v.ready).isSome = true → v.take.ready = v.console ∧ v.take.console = v.ready) ∧ v.take.write = v.write ∧
      v.take.get v.write = v.get v.write ∧ v.take.seq = v.seq ∧ v.take.lagLimit = v.lagLimit ∧
      v.take.overwritten = v.overwritten ∧
      v.take.get v.take.console = (if (v.get v.ready).isSome then v.get v.ready else v.get v.console) ∧
      ((v.get v.ready).isSome = false → v.take = v) := by
  cases hx : (v.get v.ready).isSome with
  | true =>
    obtain ⟨-, hwrite, -, -⟩ := v.put_roles v.console none
    obtain ⟨hseq, hlimit, hover⟩ := v.put_rest v.console none
    rw [take_some hx]
    exact ⟨get_put_same .., fun _ => ⟨rfl, rfl⟩, hwrite, get_put_ne _ _ hwc, hseq, hlimit, hover, get_put_ne _ _ hrc, nofun⟩
  | false =>
    rw [take_none hx]
    exact ⟨Option.not_isSome_iff_eq_none.1 (hx ▸ Bool.false_ne_true), nofun, rfl, rfl, rfl, rfl, rfl, rfl, fun _ => rfl⟩

/-- The view part of the reply of TAKE_VIEW (section 11.4). -/
def Vbu.body (v : Vbu) : List Byte :=
  match v.get v.console with
  | none => flagByte false
  | some x => flagByte true ++ x.toBytes

theorem serveTakeView_eq (s : State) : serveTakeView s =
    served (flagByte (s.vbu.get s.vbu.ready).isSome ++ be 1 s.vbu.take.lagCount ++ s.vbu.take.body) (s.setVbu s.vbu.take) :=
  rfl

theorem Vbu.body_some {v : Vbu} {y : Snapshot} (h : v.get v.console = some y) : v.body = flagByte true ++ y.toBytes := by
  simp only [Vbu.body, h]

theorem Vbu.body_none {v : Vbu} (h : v.get v.console = none) : v.body = flagByte false := by
  simp only [Vbu.body, h]

theorem Vbu.take_lagCount (v : Vbu) : v.take.lagCount = v.lagCount := by
  unfold Vbu.take
  split
  · exact (v.put_roles ..).1
  · rfl

/-- What SHOWN leaves of the count and the conditions (R71, R74). -/
theorem reloadLag_spec (s : State) : (reloadLag s).vbu = { s.vbu with lagCount := s.vbu.lagLimit } ∧
    (reloadLag s).clc.notices.displayStale.raised = s.clc.notices.displayStale.raised ∧
    (s.vbu.lagCount = 0 → (reloadLag s).clc.notices.displayStale.holds = false) ∧ (reloadLag s).miu = s.miu := by
  unfold reloadLag
  dsimp only
  split
  · exact ⟨rfl, rfl, fun _ => rfl, rfl⟩
  · next h => exact ⟨rfl, rfl, fun hz => absurd (beq_iff_eq.2 hz) h, rfl⟩

theorem serveShown_unseen {s : State} {q : Nat} (h : ∀ x, s.vbu.get s.vbu.console = some x → x.seq ≠ q) :
    serveShown q s = refuse .notFound s := by
  cases hx : s.vbu.get s.vbu.console with
  | none => simp only [serveShown, hx]
  | some x => simp only [serveShown, hx, if_neg (h x hx)]

theorem serveShown_seen {s : State} {x : Snapshot} (h : s.vbu.get s.vbu.console = some x) : serveShown x.seq s =
    served (be 2 x.seq ++ be 1 s.vbu.lagLimit) (toFen (.confirm x.entries) (reloadLag s)) := by
  simp only [serveShown, h, if_pos]

/-- Settles O27. -/
theorem viewIsTakenAndShown : Obligations.ViewIsTakenAndShown := by
  unfold Obligations.ViewIsTakenAndShown
  refine ⟨fun s hl ⟨_, hrc, hwc⟩ => ?takes, fun s q hl => ⟨fun h => ?nothing, fun x h hx => ?other, fun x h hx => ?shown⟩⟩
  case takes =>
    have taken : exec .takeView s = .next (answered 0x30 .ok _ _) := request_of_served hl (serveTakeView_eq s)
    rw [Vbu.take_lagCount] at taken
    obtain ⟨hready, hmoved, hwrite, hseen, hseq, hlimit, hover, hconsole, hkept⟩ := s.vbu.take_spec hrc hwc
    exact ⟨_, _, _, taken, rfl, rfl, s.vbu.take_lagCount, hready, hmoved, hwrite, (congrArg _ hwrite).trans hseen, hseq, hlimit,
      hover, hconsole, hkept, fun _ => Vbu.body_some, Vbu.body_none, rfl, rfl, rfl, rfl, rfl, rfl⟩
  case nothing => exact request_of_refuse hl (serveShown_unseen fun x hx => nomatch h.symm.trans hx)
  case other =>
    refine request_of_refuse hl (serveShown_unseen fun y hy => ?_)
    obtain rfl := Option.some.inj (h.symm.trans hy)
    exact hx
  case shown =>
    subst hx
    obtain ⟨hvbu, hraised, hends, hmiu⟩ := reloadLag_spec s
    refine ⟨_, request_of_served hl (serveShown_seen h), rfl, hvbu, ?_, hraised, hends, reloadLag_fen s, reloadLag_sau s, hmiu,
      reloadLag_cku s, reloadLag_rbc s, reloadLag_smr s⟩
    simp [toFen]

end Sys2Proof.Machine

/-! ## Settlement: the operations that the commands of the terminal and of the queue share (chapter 5) -/

namespace Sys2Proof.Machine

/-! ### AUTH_WAITING and the queue (R94) -/

/-- A condition's notice, its block having seen it before and after an event (R187). -/
def Notice.track (was now : Bool) (n : Notice) : Notice :=
  if !was && now then n.begins else if was && !now then n.ends else n

theorem Notice.track_same (b : Bool) (n : Notice) : n.track b b = n := by cases b <;> rfl

/-- The replacement of the queue, its notice written out (R94). -/
theorem setQueue_eq (q : List AuthEntry) (s : State) : setQueue q s =
    (s.setStu { s.stu with queue := q }).setNotice .authWaiting
      (s.clc.notices.authWaiting.track (authWaiting s) (q.any fun e => e.state == .queued)) := by
  unfold setQueue Notice.track
  dsimp only
  show (if !authWaiting s && (q.any fun e => e.state == .queued) then _
    else if authWaiting s && !(q.any fun e => e.state == .queued) then _ else _) = _
  split_ifs <;> rfl

theorem setQueue_authWaiting (q : List AuthEntry) (s : State) : (setQueue q s).clc.notices.authWaiting =
    s.clc.notices.authWaiting.track (authWaiting s) (q.any fun e => e.state == .queued) := by rw [setQueue_eq]; rfl

/-- A queue of the same condition replaced: nothing is reported. -/
theorem setQueue_quiet {q : List AuthEntry} {s : State} (h : (q.any fun e => e.state == .queued) = authWaiting s) :
    setQueue q s = s.setStu { s.stu with queue := q } := by
  rw [setQueue_eq, h, Notice.track_same]
  rfl

@[simp] theorem setQueue_hire (q : List AuthEntry) (s : State) (k : Slot) : (setQueue q s).hire k = s.hire k := by
  rw [setQueue_eq]
  rfl

/-- The other notices stand, and so do the answers. -/
theorem setQueue_hireKind (q : List AuthEntry) (s : State) (k : Slot) :
    (setQueue q s).clc.notices.get (hireKind k) = s.clc.notices.get (hireKind k) :=
  setQueue_get_ne q s (by cases k <;> decide)

theorem setQueue_terminal (q : List AuthEntry) (s : State) :
    (setQueue q s).clc.notices.terminal = s.clc.notices.terminal := setQueue_get_ne (k := .terminal) q s (by decide)

/-! ### The session (R85, R86, R101) -/

/-- The PIU after a session was left: a PIN entry left holds the mute (R164). -/
def Piu.leftPin (was : Option Session) (p : Piu) : Piu :=
  if was.any (·.inPin) then { p with pinMute := .hold 2000 } else p

theorem leavePin_eq (was : Option Session) (s : State) : leavePin was s = s.setPiu (s.piu.leftPin was) := by
  unfold leavePin Piu.leftPin
  split <;> rfl

/-- The terminal link with a final message in its slot, its session in RESULT (R91, R100, R101). -/
def Tlc.toResult (m : TermMsg) (v : Session) (l : Tlc) : Tlc :=
  { l with
    session := some { v with state := .result, current := none }, slot := some m
    exchange := l.exchange.map fun x => { x with carriesSlot := false } }

theorem toResult_eq (m : TermMsg) (v : Session) (s : State) : toResult m v s =
    (s.setTlc (s.tlc.toResult m v)).setPiu (s.piu.leftPin s.tlc.session) := leavePin_eq ..

theorem endSession_eq (s : State) : endSession s =
    (s.setTlc { s.tlc with session := none }).setPiu (s.piu.leftPin s.tlc.session) := leavePin_eq ..

theorem toResult_hire (m : TermMsg) (v : Session) (s : State) (k : Slot) : (toResult m v s).hire k = s.hire k := by
  rw [toResult_eq]
  rfl

/-- A result given for an entry whose session is open. -/
theorem giveResult_session {c : ResultCode} {approval : Option (List Byte)} {e : AuthEntry} {s : State} {v : Session}
    (hv : s.tlc.session = some v) (hslot : v.slot = e.slot) (hhire : v.hire = e.hire) (hstate : v.state ≠ .result) :
    giveResult c approval e s = toResult (.result c approval) v s := by
  have found : sessionFor e s = some v := by simp [sessionFor, hv, hslot, hhire, hstate]
  simp only [giveResult, found]

theorem giveResult_noSession {c : ResultCode} {approval : Option (List Byte)} {e : AuthEntry} {s : State}
    (hv : s.tlc.session = none) :
    giveResult c approval e s = if c = .approved ∨ c = .approvedOffline then raise .resultUndelivered s else s := by
  have none : sessionFor e s = none := by simp [sessionFor, hv]
  simp only [giveResult, none]

/-- A result leaves all but the session, the terminal's notice and the PIN mute (R101). -/
theorem giveResult_frame (c : ResultCode) (approval : Option (List Byte)) (e : AuthEntry) (s : State) :
    ∃ tlc clc piu, giveResult c approval e s = ((s.setTlc tlc).setClc clc).setPiu piu ∧
      ∀ k, clc.notices.get (hireKind k) = s.clc.notices.get (hireKind k) := by
  unfold giveResult
  split
  · next v _ =>
    exact ⟨s.tlc.toResult (.result c approval) v, s.clc, s.piu.leftPin s.tlc.session, toResult_eq .., fun _ => rfl⟩
  · split
    · exact ⟨s.tlc, _, s.piu, rfl, fun k => raise_get_ne .resultUndelivered s (by cases k <;> decide)⟩
    · exact ⟨s.tlc, s.clc, s.piu, rfl, fun _ => rfl⟩

/-- A result given for an entry: the session's message, or that it could not be given (R101). -/
structure GivesResult (c : ResultCode) (approval : Option (List Byte)) (e : AuthEntry) (s t : State) : Prop where
  fen : t.fen = s.fen
  stu : t.stu = s.stu
  sau : t.sau = s.sau
  miu : t.miu = s.miu
  tfs : t.tfs = s.tfs
  vbu : t.vbu = s.vbu
  outside : outsideKept s t
  hireNotice : ∀ k, t.clc.notices.get (hireKind k) = s.clc.notices.get (hireKind k)
  session : ∀ v, s.tlc.session = some v → v.slot = e.slot → v.hire = e.hire → v.state ≠ .result →
    t.tlc.slot = some (.result c approval) ∧ t.tlc.session = some { v with state := .result, current := none }
  undelivered : s.tlc.session = none → t.tlc = s.tlc ∧ t.clc.notices.terminal =
    if c = .approved ∨ c = .approvedOffline then s.clc.notices.terminal.addReason 4 else s.clc.notices.terminal

theorem givesResult (c : ResultCode) (approval : Option (List Byte)) (e : AuthEntry) (s : State) :
    GivesResult c approval e s (giveResult c approval e s) := by
  obtain ⟨tlc, clc, piu, frame, notices⟩ := giveResult_frame c approval e s
  refine ⟨by rw [frame]; rfl, by rw [frame]; rfl, by rw [frame]; rfl, by rw [frame]; rfl, by rw [frame]; rfl, by rw [frame]; rfl,
    by rw [frame]; exact ⟨rfl, rfl, rfl⟩, fun k => by rw [frame]; exact notices k, fun v hv hslot hhire hstate => ?_,
    fun hv => ?_⟩
  · rw [giveResult_session hv hslot hhire hstate, toResult_eq]
    exact ⟨rfl, rfl⟩
  · rw [giveResult_noSession hv]
    split <;> exact ⟨rfl, rfl⟩

/-! ### A payment that fails (R55) -/

theorem paymentFailure_paying {k : Slot} {h : Hire} {s : State} (he : s.hire k = some h) (hs : h.state = .paying) :
    paymentFailure k s = compose (raise (.paymentFailed k) (s.setHire k (some { h with state := .due }))) := by
  simp only [paymentFailure, he]
  exact if_pos hs

theorem paymentFailure_spec {k : Slot} {h : Hire} {s : State} (he : s.hire k = some h) (hs : h.state = .paying) :
    (paymentFailure k s).hire k = some { h with state := .due } ∧ otherSlotsKept k s (paymentFailure k s) ∧
      (paymentFailure k s).clc.notices.get (hireKind k) = (s.clc.notices.get (hireKind k)).addReason 3 ∧
      (paymentFailure k s).clc.notices.terminal = s.clc.notices.terminal := by
  rw [paymentFailure_paying he hs]
  refine ⟨State.setHire_hire_same .., fun j hj => State.setHire_hire_ne _ _ hj, raise_get_kind (.paymentFailed k) _, ?_⟩
  exact raise_get_ne (k := .terminal) (.paymentFailed k) _ (by cases k <;> decide)

end Sys2Proof.Machine

/-! ## Card payments begun and cancelled, entries handed, read and expired (R54, R84, R91, R94 to R96, R102) -/

namespace Sys2Proof.Machine

/-! ### PRESENT_CARD and CANCEL_PAYMENT -/

section
variable {slot : Nat} {k : Slot} {h : Hire} {s : State}

theorem mem_due {st : HireState} : st ∈ [HireState.due] ↔ st = .due := List.mem_singleton

theorem mem_paying {st : HireState} : st ∈ [HireState.paying] ↔ st = .paying := List.mem_singleton

theorem servePresentCard_due (hk : slotOf slot = some k) (he : s.hire k = some h) (hs : h.state = .due) :
    servePresentCard slot s =
      if s.tlc.session.isSome then refuse .busy s
      else if ¬ s.tlc.up then refuse .notAllowed s
      else served (be 4 h.remaining ++ be 4 (h.remaining / 2))
        (compose ((placeMessage (.showAmount h.number h.remaining (h.remaining / 2))
          (s.setTlc { s.tlc with
            session := some ⟨.inPhase .showing, k, h.number, h.remaining, h.remaining / 2, none⟩ })).setHire k
              (some { h with state := .paying }))) := onHire_takes hk he (mem_due.2 hs)

/-- CANCEL_PAYMENT with the hire's session, or with none of it (R91). -/
theorem serveCancelPayment_session {v : Session} (hk : slotOf slot = some k) (he : s.hire k = some h) (hs : h.state = .paying)
    (hv : s.tlc.session = some v) (hslot : v.slot = k) : serveCancelPayment slot s =
      if v.state = .result then refuse .notAllowed s
      else served [] (paymentFailure k (toResult .cancel v (setQueue (withdrawLive k s.stu.queue) s))) := by
  have found : (s.tlc.session.filter fun v => v.slot == k) = some v := by simp [hv, hslot]
  rw [serveCancelPayment, onHire_takes hk he (mem_paying.2 hs)]
  simp only [found]

theorem serveCancelPayment_noSession (hk : slotOf slot = some k) (he : s.hire k = some h) (hs : h.state = .paying)
    (hv : ∀ v, s.tlc.session = some v → v.slot ≠ k) :
    serveCancelPayment slot s = served [] (paymentFailure k (setQueue (withdrawLive k s.stu.queue) s)) := by
  have none : (s.tlc.session.filter fun v => v.slot == k) = none := by
    rw [Option.filter_eq_none_iff]
    exact fun v hv' => by simpa using hv v hv'
  rw [serveCancelPayment, onHire_takes hk he (mem_paying.2 hs)]
  simp only [none]

end

/-- The withdrawal of the entries that could still pay, in the words of R91. -/
theorem withdrawLive_eq (k : Slot) (q : List AuthEntry) : withdrawLive k q = q.map fun e =>
    if e.slot = k ∧ (e.state = .queued ∨ e.state = .handed) then { e with state := .withdrawn } else e := by
  refine List.map_congr_left fun e _ => ?_
  simp [AuthEntry.live]

/-- Settles O29. -/
theorem cardPaymentsBeginAndAreCancelled : Obligations.CardPaymentsBeginAndAreCancelled := by
  unfold Obligations.CardPaymentsBeginAndAreCancelled
  intro s slot k h hl hk he
  refine ⟨fun hs hv => ?busy, fun hs hv hup => ?down, fun hs hv hup => ?begins, fun hs => ?notDue,
    fun v hs hv hslot hres => ?result, fun v hs hv hslot hres => ?cancels, fun hs hv => ?cancelsNone⟩
  case busy =>
    exact request_of_refuse hl ((servePresentCard_due hk he hs).trans (if_pos (Option.isSome_iff_ne_none.2 hv)))
  case down =>
    refine request_of_refuse hl ((servePresentCard_due hk he hs).trans ?_)
    rw [if_neg (by rw [hv]; exact Bool.false_ne_true), if_pos (by rw [hup]; exact Bool.false_ne_true)]
  case begins =>
    have serves := servePresentCard_due hk he hs
    rw [if_neg (by rw [hv]; exact Bool.false_ne_true), if_neg (not_not.2 hup)] at serves
    exact ⟨_, request_of_served hl serves, State.setHire_hire_same .., rfl, rfl, rfl, rfl,
      fun j hj => State.setHire_hire_ne _ _ hj, rfl, rfl, rfl, rfl, rfl, rfl, rfl, rfl⟩
  case notDue => exact request_of_refuse hl (onHire_otherState hk he (mt mem_due.1 hs))
  case result => exact request_of_refuse hl ((serveCancelPayment_session hk he hs hv hslot).trans (if_pos hres))
  case cancels =>
    have serves := (serveCancelPayment_session hk he hs hv hslot).trans (if_neg hres)
    obtain ⟨hhire, hothers, hnotice, -⟩ := paymentFailure_spec (k := k) (h := h)
      (s := toResult .cancel v (setQueue (withdrawLive k s.stu.queue) s))
      (by rw [toResult_hire, setQueue_hire, he]) hs
    refine ⟨_, request_of_served hl serves, hhire, ?session, ?slot, ?queue, hnotice.trans ?notice, rfl, ?pin, fun j hj => ?others,
      ?sau, ?miu, ?vbu, ?outside⟩
    case notice => rw [toResult_eq]; exact congrArg (·.addReason 3) (setQueue_hireKind ..)
    case others =>
      refine (hothers j hj).trans ?_
      rw [toResult_hire, setQueue_hire]
    case queue => simp [toResult_eq, withdrawLive_eq]
    case pin => simp [toResult_eq, Piu.leftPin, hv]
    all_goals simp [toResult_eq, Tlc.toResult, outsideKept]
  case cancelsNone =>
    have serves := serveCancelPayment_noSession hk he hs hv
    obtain ⟨hhire, hothers, hnotice, -⟩ := paymentFailure_spec (k := k) (h := h)
      (s := setQueue (withdrawLive k s.stu.queue) s) (by rw [setQueue_hire, he]) hs
    refine ⟨_, request_of_served hl serves, hhire, ?tlc, ?queueAlone, hnotice.trans (congrArg (·.addReason 3) (setQueue_hireKind ..)), rfl,
      ?piu, fun j hj => (hothers j hj).trans (setQueue_hire ..), ?sauAlone, ?miuAlone, ?vbuAlone, ?outsideAlone⟩
    case queueAlone => simp [withdrawLive_eq]
    all_goals simp [outsideKept]

/-! ### NEXT_AUTH and AUTH_READ (R95, R96) -/

theorem serveNextAuth_none {s : State} (h : ∀ e ∈ s.stu.queue, e.state ≠ .queued) : serveNextAuth s = refuse .notFound s := by
  have none : (s.stu.queue.find? fun e => e.state == .queued) = none := by
    rw [List.find?_eq_none]
    exact fun e he => by simpa using h e he
  simp only [serveNextAuth, none]

theorem serveNextAuth_oldest {s : State} {older newer : List AuthEntry} {e : AuthEntry}
    (hq : s.stu.queue = older ++ e :: newer) (ho : ∀ x ∈ older, x.state ≠ .queued) (he : e.state = .queued) :
    serveNextAuth s = served (e.recordBytes ++ be 3 e.deadline) (setQueue (markEntry e.id .handed s.stu.queue) s) := by
  have oldest : (s.stu.queue.find? fun e => e.state == .queued) = some e := by
    rw [List.find?_eq_some_iff_append]
    exact ⟨beq_iff_eq.2 he, older, newer, hq, fun x hx => by simpa using ho x hx⟩
  simp only [serveNextAuth, oldest]

/-- An entry of its own identifier marked: it alone changes. -/
theorem markEntry_split {older newer : List AuthEntry} {e : AuthEntry} {st : AuthState}
    (h : ((older ++ e :: newer).map (·.id)).Nodup) :
    markEntry e.id st (older ++ e :: newer) = older ++ { e with state := st } :: newer := by
  rw [List.map_append, List.map_cons] at h
  obtain ⟨-, hnewer, hdisjoint⟩ := List.nodup_append.1 h
  have kept : ∀ l : List AuthEntry, (∀ x ∈ l, x.id ≠ e.id) → markEntry e.id st l = l := fun l hl =>
    (List.map_congr_left fun x hx => if_neg (hl x hx)).trans (List.map_id' l)
  have older_kept := kept older fun x hx =>
    hdisjoint x.id (List.mem_map_of_mem hx) e.id List.mem_cons_self
  have newer_kept := kept newer fun x hx hid => (List.nodup_cons.1 hnewer).1 (hid ▸ List.mem_map_of_mem hx)
  unfold markEntry at *
  rw [List.map_append, List.map_cons, older_kept, newer_kept, if_pos rfl]

theorem any_queued_split {older newer : List AuthEntry} {e : AuthEntry} (ho : ∀ x ∈ older, x.state ≠ .queued) :
    ((older ++ e :: newer).any fun x => x.state == .queued) = (e.state == .queued || newer.any fun x => x.state == .queued) := by
  have none : (older.any fun x => x.state == .queued) = false := by
    rw [List.any_eq_false]
    exact fun x hx => by simpa using ho x hx
  rw [List.any_append, none, List.any_cons, Bool.false_or]

/-- AUTH_WAITING held before and is tracked: it ends with the last QUEUED entry (R94). -/
theorem Notice.track_from_true (b : Bool) (n : Notice) : n.track true b = if b then n else { n with holds := false } := by
  cases b <;> rfl

theorem serveAuthRead_entry {n : Nat} {s : State} {e : AuthEntry} (hn : n ≤ 7) (he : s.stu.queue[n]? = some e) :
    serveAuthRead n s =
      served (e.recordBytes ++ be 1 e.state.code ++ be 3 e.deadline ++ be 1 s.stu.queue.length) s := by
  rw [serveAuthRead, if_neg (Nat.not_lt.2 hn)]
  simp only [he]

theorem serveAuthRead_none {n : Nat} {s : State} (hn : n ≤ 7) (he : s.stu.queue.length ≤ n) :
    serveAuthRead n s = refuse .notFound s := by
  have none : s.stu.queue[n]? = none := List.getElem?_eq_none he
  rw [serveAuthRead, if_neg (Nat.not_lt.2 hn)]
  simp only [none]

/-! ### Expiry (R102) -/

theorem authEntry_id {s : State} {n : Nat} {e : AuthEntry} (h : authEntry s n = some e) : e.id = n :=
  beq_iff_eq.1 (List.find?_some (p := fun e : AuthEntry => e.id == n) h)

theorem AuthEntry.live_iff {e : AuthEntry} : e.live = true ↔ e.state = .queued ∨ e.state = .handed := by
  simp [AuthEntry.live]

/-- An entry that is not QUEUED leaves the queue: AUTH_WAITING stands (R94). -/
theorem removeEntry_quiet {s : State} {e : AuthEntry} (he : e ∈ s.stu.queue) (hn : (s.stu.queue.map (·.id)).Nodup)
    (hs : e.state ≠ .queued) :
    removeEntry e.id s = s.setStu { s.stu with queue := s.stu.queue.filter fun x => x.id != e.id } := by
  refine setQueue_quiet ?_
  rw [List.any_filter, authWaiting, Bool.eq_iff_iff, List.any_eq_true, List.any_eq_true]
  refine exists_congr fun x => and_congr_right fun hx => ?_
  have other : x.state = .queued → x.id ≠ e.id := fun hq hid => hs (List.inj_on_of_nodup_map hn hx he hid ▸ hq)
  simpa using other

/-- What a verdict or an expiry that fails the payment of an entry leaves (R55, R99, R101, R102). -/
structure FailsPayment (c : ResultCode) (e : AuthEntry) (h : Hire) (s t : State) : Prop where
  hire : t.hire e.slot = some { h with state := .due }
  others : otherSlotsKept e.slot s t
  stu : t.stu = { s.stu with queue := s.stu.queue.filter fun x => x.id != e.id }
  notice : t.clc.notices.get (hireKind e.slot) = (s.clc.notices.get (hireKind e.slot)).addReason 3
  session : ∀ v, s.tlc.session = some v → v.slot = e.slot → v.hire = e.hire → v.state ≠ .result →
    t.tlc.slot = some (.result c none) ∧ t.tlc.session = some { v with state := .result, current := none }
  undelivered : s.tlc.session = none → t.tlc = s.tlc ∧ t.clc.notices.terminal =
    if c = .approved ∨ c = .approvedOffline then s.clc.notices.terminal.addReason 4 else s.clc.notices.terminal
  sau : t.sau = s.sau
  miu : t.miu = s.miu
  tfs : t.tfs = s.tfs
  vbu : t.vbu = s.vbu
  outside : outsideKept s t

theorem failsPayment_spec {c : ResultCode} {e : AuthEntry} {h : Hire} {s : State} (he : s.hire e.slot = some h)
    (hs : h.state = .paying) :
    FailsPayment c e h s (giveResult c none e (paymentFailure e.slot (removeEntry e.id s))) := by
  have removed : removeEntry e.id s = setQueue (s.stu.queue.filter fun x => x.id != e.id) s := rfl
  obtain ⟨hhire, hothers, hnotice, hterminal⟩ := paymentFailure_spec (k := e.slot) (h := h) (s := removeEntry e.id s)
    ((setQueue_hire ..).trans he) hs
  have gives := givesResult c none e (paymentFailure e.slot (removeEntry e.id s))
  have link : (paymentFailure e.slot (removeEntry e.id s)).tlc = s.tlc := by simp [removed]
  have hire (k : Slot) : (giveResult c none e (paymentFailure e.slot (removeEntry e.id s))).hire k
      = (paymentFailure e.slot (removeEntry e.id s)).hire k := congrArg (fun f => f.slots.get k) gives.fen
  obtain ⟨hc, hr, hm⟩ := gives.outside
  exact {
    hire := (hire _).trans hhire
    others := fun j hj => (hire j).trans ((hothers j hj).trans (setQueue_hire ..))
    stu := gives.stu.trans (by simp [removed])
    notice := (gives.hireNotice _).trans (hnotice.trans (congrArg (·.addReason 3) (setQueue_hireKind ..)))
    session := fun v hv => gives.session v (link ▸ hv)
    undelivered := fun hv => by
      obtain ⟨htlc, hnotice'⟩ := gives.undelivered (link ▸ hv)
      rw [hterminal, removed, setQueue_terminal] at hnotice'
      exact ⟨htlc.trans link, hnotice'⟩
    sau := gives.sau.trans (by simp [removed])
    miu := gives.miu.trans (by simp [removed])
    tfs := gives.tfs.trans (by simp [removed])
    vbu := gives.vbu.trans (by simp [removed])
    outside := ⟨hc.trans (by simp [removed]), hr.trans (by simp [removed]), hm.trans (by simp [removed])⟩ }

/-- Settles O30. -/
theorem authEntriesAreHandedReadAndExpire : Obligations.AuthEntriesAreHandedReadAndExpire := by
  unfold Obligations.AuthEntriesAreHandedReadAndExpire
  refine ⟨fun s hl => ⟨fun hq => ?none, fun older e newer hq ho he hn => ?hands, fun n hn => ?badIndex,
    fun n hn he => ?noEntry, fun n e hn he => ?reads⟩, fun s id e hp hid => ⟨fun hlive h he hs => ?fails, fun hdead hn => ?gone⟩⟩
  case none => exact request_of_refuse hl (serveNextAuth_none hq)
  case hands =>
    have waiting : authWaiting s = true := by rw [authWaiting, hq, any_queued_split ho, he]; rfl
    refine ⟨_, request_of_served hl (serveNextAuth_oldest hq ho he), ?_, ?_, ?_, ?_, ?_, ?_, ?_, ?_, ?_⟩
    · simp only [answered_stu, setQueue_stu, hq, markEntry_split (hq ▸ hn)]
    · rfl
    · rw [answered_clc, setQueue_authWaiting, waiting, hq, markEntry_split (hq ▸ hn), any_queued_split ho,
        Notice.track_from_true]
      rfl
    all_goals simp [outsideKept]
  case badIndex => exact request_of_refuse hl (if_pos hn)
  case noEntry => exact request_of_refuse hl (serveAuthRead_none hn he)
  case reads => exact request_of_served hl (serveAuthRead_entry hn he)
  case fails =>
    obtain rfl := authEntry_id hid
    have taken : exec (.authDeadlineExpiry e.id) s =
        .next (giveResult .timedOut none e (paymentFailure e.slot (removeEntry e.id s))) := by
      rw [exec_event (c := .authDeadlineExpiry e.id) rfl hp]
      simp only [expireEntry, hid]
      rw [if_pos (AuthEntry.live_iff.2 hlive)]
    have f := failsPayment_spec (c := .timedOut) he hs
    exact ⟨_, taken, f.hire, f.others, f.stu, f.notice, f.session, fun hv => (f.undelivered hv).1, f.sau, f.miu, f.vbu, f.outside⟩
  case gone =>
    obtain rfl := authEntry_id hid
    have dead : e.state ≠ .queued ∧ e.state ≠ .handed := by rcases hdead with h | h <;> simp [h]
    rw [exec_event (c := .authDeadlineExpiry e.id) rfl hp]
    simp only [expireEntry, hid]
    rw [if_neg (fun hlive => (AuthEntry.live_iff.1 hlive).elim dead.1 dead.2),
      removeEntry_quiet (List.mem_of_find?_eq_some hid) hn dead.1]

end Sys2Proof.Machine

/-! ## Verdicts and tenders (R56, R97 to R99, R101, R104 to R106) -/

namespace Sys2Proof.Machine

/-! ### Identifiers (R93, R106) -/

/-- The identifiers in the order in which a search from the last one issued tries them (R93). -/
def triedId (last j : Nat) : Nat := (last + j) % 255 + 1

theorem triedId_succ (last j : Nat) : (if triedId last j ≥ 255 then 1 else triedId last j + 1) = triedId last (j + 1) := by
  unfold triedId
  split <;> omega

/-- The search ends at the first unused identifier, or it has tried all that the fuel allows. -/
theorem freeId_tried {used : List Nat} {last fuel j : Nat} (hused : ∀ i < j, triedId last i ∈ used) :
    (∃ m, freeId used fuel (triedId last j) = triedId last m ∧ triedId last m ∉ used ∧ ∀ i < m, triedId last i ∈ used) ∨
      ∀ i < j + fuel, triedId last i ∈ used := by
  induction fuel generalizing j with
  | zero => exact .inr hused
  | succ fuel ih =>
    by_cases hj : triedId last j ∈ used
    · have more : ∀ i < j + 1, triedId last i ∈ used := fun i hi =>
        (Nat.lt_succ_iff_lt_or_eq.1 hi).elim (hused i) fun e => e ▸ hj
      have search : freeId used (fuel + 1) (triedId last j) = freeId used fuel (triedId last (j + 1)) := by
        rw [freeId, if_pos (List.contains_iff_mem.2 hj), triedId_succ]
      rw [search, show j + (fuel + 1) = j + 1 + fuel by omega]
      exact ih more
    · refine .inl ⟨j, ?_, hj, hused⟩
      rw [freeId, if_neg (mt List.contains_iff_mem.1 hj)]

/-- Fewer than 255 identifiers in use leave one free. -/
theorem not_all_tried {used : List Nat} {last : Nat} (hlen : used.length < 255) : ¬ ∀ i < 255, triedId last i ∈ used := by
  intro hall
  have distinct : ((List.range 255).map (triedId last)).Nodup := by
    refine List.Nodup.map_on (fun x hx y hy e => ?_) List.nodup_range
    rw [List.mem_range] at hx hy
    unfold triedId at e
    omega
  have covered : (List.range 255).map (triedId last) ⊆ used := by
    intro x hx
    obtain ⟨i, hi, rfl⟩ := List.mem_map.1 hx
    exact hall i (List.mem_range.1 hi)
  have fits := (List.subperm_of_subset distinct covered).length_le
  rw [List.length_map, List.length_range] at fits
  omega

theorem nextId_first_unused {used : List Nat} {last : Nat} (hlen : used.length < 255) (hlast : last ≤ 255) :
    ∃ j, nextId used last = triedId last j ∧ triedId last j ∉ used ∧ ∀ i < j, triedId last i ∈ used := by
  have first : (if last ≥ 255 then 1 else last + 1) = triedId last 0 := by
    unfold triedId
    split <;> omega
  rw [nextId, first]
  refine (freeId_tried (fun i hi => absurd hi (Nat.not_lt_zero i))).resolve_right ?_
  rw [Nat.zero_add]
  exact not_all_tried hlen

/-! ### The checks of VERDICT (R97) -/

section
variable {id : Nat} {fieldsOk : Bool} {f : AuthEntry → Served} {s : State}

theorem onVerdict_badId (h : id < 1 ∨ 255 < id) : onVerdict id fieldsOk f s = refuse .badField s :=
  if_pos (.inl (by rw [within_eq_false_iff.2 h]; exact Bool.false_ne_true))

theorem onVerdict_badFields (h : fieldsOk = false) : onVerdict id fieldsOk f s = refuse .badField s :=
  if_pos (.inr (by rw [h]; exact Bool.false_ne_true))

theorem onVerdict_fields (hid : 1 ≤ id ∧ id ≤ 255) (hok : fieldsOk = true) : onVerdict id fieldsOk f s =
    match authEntry s id with
    | none => refuse .notFound s
    | some e =>
      match e.state with
      | .superseded | .withdrawn => refuse .conflict s
      | .queued => refuse .notAllowed s
      | .handed => f e :=
  if_neg (by rw [within_eq_true_iff.2 hid, hok]; decide)

theorem onVerdict_noEntry (hid : 1 ≤ id ∧ id ≤ 255) (hok : fieldsOk = true) (he : authEntry s id = none) :
    onVerdict id fieldsOk f s = refuse .notFound s := by
  simp only [onVerdict_fields hid hok, he]

theorem onVerdict_notHanded {e : AuthEntry} {st : Status} (hid : 1 ≤ id ∧ id ≤ 255) (hok : fieldsOk = true)
    (he : authEntry s id = some e)
    (hst : (e.state = .superseded ∨ e.state = .withdrawn) ∧ st = .conflict ∨ e.state = .queued ∧ st = .notAllowed) :
    onVerdict id fieldsOk f s = refuse st s := by
  rcases hst with ⟨hs | hs, rfl⟩ | ⟨hs, rfl⟩ <;> simp only [onVerdict_fields hid hok, he, hs]

theorem onVerdict_handed {e : AuthEntry} (hid : 1 ≤ id ∧ id ≤ 255) (hok : fieldsOk = true) (he : authEntry s id = some e)
    (hs : e.state = .handed) : onVerdict id fieldsOk f s = f e := by
  simp only [onVerdict_fields hid hok, he, hs]

end

/-! ### A tender recorded (R56, R58) -/

theorem Hire.tendered_remaining {h : Hire} {t : Tender} (hb : h.bill ≠ none) :
    (h.tendered t).remaining = h.remaining - t.amount := by
  obtain ⟨b, hb⟩ := Option.ne_none_iff_exists'.1 hb
  simp [Hire.tendered, Hire.remaining, hb]

theorem recordTender_closes {k : Slot} {h : Hire} {t : Tender} {s : State} (he : s.hire k = some h) (hb : h.bill ≠ none)
    (ht : t.amount = h.remaining) : recordTender k t s = compose (closeHire k true 0 (h.tendered t) s) := by
  have takes : h.takesTender t = true := by simp [Hire.takesTender, ht]
  have paid : (h.tendered t).remaining = 0 := by rw [Hire.tendered_remaining hb, ht, Nat.sub_self]
  simp only [recordTender, he]
  rw [if_pos takes, if_pos paid]

theorem recordTender_partial {k : Slot} {h : Hire} {t : Tender} {s : State} (he : s.hire k = some h) (hb : h.bill ≠ none)
    (ht : t.amount < h.remaining) (hn : h.tenders.length < 2) :
    recordTender k t s = compose (s.setHire k (some (h.tendered t))) := by
  have takes : h.takesTender t = true := by simp [Hire.takesTender, Nat.le_of_lt ht, hn]
  have unpaid : (h.tendered t).remaining ≠ 0 := by rw [Hire.tendered_remaining hb]; omega
  simp only [recordTender, he]
  rw [if_pos takes, if_neg unpaid]

/-! ### Verdicts that pay the hire (R98, R106) -/

/-- A card tender that pays the hire of an entry, the entry removed and its result given. -/
def paidByCard (c : ResultCode) (approval : Option (List Byte)) (t : Tender) (e : AuthEntry) (s : State) : State :=
  giveResult c approval e (removeEntry e.id (recordTender e.slot t s))

theorem closeHire_terminal (k : Slot) (paid : Bool) (w : Nat) (h : Hire) (s : State) :
    (closeHire k paid w h s).clc.notices.terminal = s.clc.notices.terminal := by
  have notice (r : Reason) (hr : NoticeKind.terminal ≠ r.kind) (t : State) :
      (raise r t).clc.notices.get .terminal = t.clc.notices.get .terminal := raise_get_ne r t hr
  refine (show _ = (post (postClose paid w h) s).clc.notices.get .terminal from ?_).trans (by rw [post_clc]; rfl)
  cases paid with
  | true => exact notice (.closedPaid k) (by cases k <;> decide) _
  | false => exact notice (.closedUnpaid k) (by cases k <;> decide) _

/-- What a verdict that pays the hire leaves (R58, R98, R101). -/
structure PaidByCard (c : ResultCode) (approval : Option (List Byte)) (p : Tender) (e : AuthEntry) (h : Hire)
    (s t : State) : Prop where
  hire : t.hire e.slot = none
  others : otherSlotsKept e.slot s t
  stu : t.stu = { s.stu with queue := s.stu.queue.filter fun x => x.id != e.id }
  notice : t.clc.notices.get (hireKind e.slot) = (s.clc.notices.get (hireKind e.slot)).addReason 4
  live : s.sau.shift ≠ .closed → t.sau.live = postClose true 0 (h.tendered p) s.sau.live
  session : ∀ v, s.tlc.session = some v → v.slot = e.slot → v.hire = e.hire → v.state ≠ .result →
    t.tlc.slot = some (.result c approval) ∧ t.tlc.session = some { v with state := .result, current := none }
  undelivered : s.tlc.session = none → t.tlc = s.tlc ∧ t.clc.notices.terminal =
    if c = .approved ∨ c = .approvedOffline then s.clc.notices.terminal.addReason 4 else s.clc.notices.terminal
  miu : t.miu = s.miu
  tfs : t.tfs = s.tfs
  vbu : t.vbu = s.vbu
  outside : outsideKept s t

theorem paidByCard_spec {c : ResultCode} {approval : Option (List Byte)} {p : Tender} {e : AuthEntry} {h : Hire} {s : State}
    (he : s.hire e.slot = some h) (hb : h.bill ≠ none) (hp : p.amount = h.remaining) :
    PaidByCard c approval p e h s (paidByCard c approval p e s) := by
  obtain ⟨hnone, hothers⟩ := closeHire_hires e.slot true 0 (h.tendered p) s
  rw [paidByCard, recordTender_closes he hb hp, removeEntry]
  generalize hq : ((compose (closeHire e.slot true 0 (h.tendered p) s)).stu.queue.filter fun x => x.id != e.id) = q
  have gives := givesResult c approval e (setQueue q (compose (closeHire e.slot true 0 (h.tendered p) s)))
  have link : (setQueue q (compose (closeHire e.slot true 0 (h.tendered p) s))).tlc = s.tlc := by simp
  have hire (k : Slot) := (congrArg (fun f : Fen => f.slots.get k) gives.fen).trans
    (setQueue_hire q (compose (closeHire e.slot true 0 (h.tendered p) s)) k)
  obtain ⟨hc, hr, hm⟩ := gives.outside
  exact {
    hire := (hire _).trans hnone
    others := fun j hj => (hire j).trans (hothers j hj)
    stu := gives.stu.trans (by rw [setQueue_stu, ← hq]; simp)
    notice := (gives.hireNotice _).trans ((setQueue_hireKind ..).trans (closeHire_notice ..))
    live := fun hshift => (congrArg Sau.live (gives.sau.trans (setQueue_sau ..))).trans
      (congrArg Sau.live (closeHire_sau (k := e.slot) hshift))
    session := fun v hv => gives.session v (link ▸ hv)
    undelivered := fun hv => by
      obtain ⟨htlc, hterminal⟩ := gives.undelivered (link ▸ hv)
      rw [setQueue_terminal, compose_clc, closeHire_terminal] at hterminal
      exact ⟨htlc.trans link, hterminal⟩
    miu := gives.miu.trans (by simp)
    tfs := gives.tfs.trans (by simp)
    vbu := gives.vbu.trans (by simp)
    outside := ⟨hc.trans (by simp), hr.trans (by simp), hm.trans (by simp)⟩ }

/-! ### VERDICT (R97 to R99, R106) -/

/-- The state in which a DEFER records its tender: the entry listed and its exposure posted (R106, R122). -/
def deferring (e : AuthEntry) (s : State) : State :=
  post (fun r => { r with exposure := satAdd maxAmount r.exposure (e.amount + e.tip) })
    (s.setStu { s.stu with
      deferred := s.stu.deferred ++ [newDeferred e s], lastDeferredId := (newDeferred e s).id })

section
variable {id : Nat} {s : State} {e : AuthEntry}

theorem serveVerdictApprove_handed {approval : Option (List Byte)} (hid : 1 ≤ id ∧ id ≤ 255) (hok : approvalOk approval = true)
    (he : authEntry s id = some e) (hs : e.state = .handed) : serveVerdictApprove id approval s =
      served [0, 0xFF] (paidByCard .approved approval ⟨.card, e.amount, e.tip, []⟩ e s) := onVerdict_handed hid hok he hs

theorem serveVerdictDecline_handed (hid : 1 ≤ id ∧ id ≤ 255) (he : authEntry s id = some e) (hs : e.state = .handed) :
    serveVerdictDecline id none s =
      served [0, 0xFF] (giveResult .declined none e (paymentFailure e.slot (removeEntry e.id s))) :=
  onVerdict_handed hid rfl he hs

theorem serveVerdictDefer_refused {st : Status} (hid : 1 ≤ id ∧ id ≤ 255) (he : authEntry s id = some e)
    (hs : e.state = .handed) (hr : deferRefusal e s = some st) : serveVerdictDefer id none s = refuse st s := by
  refine (onVerdict_handed hid rfl he hs).trans ?_
  simp only [hr]

theorem serveVerdictDefer_handed (hid : 1 ≤ id ∧ id ≤ 255) (he : authEntry s id = some e) (hs : e.state = .handed)
    (hr : deferRefusal e s = none) : serveVerdictDefer id none s = served (1 :: be 1 (newDeferred e s).id)
      (paidByCard .approvedOffline none ⟨.cardDeferred, e.amount, e.tip, []⟩ e (deferring e s)) := by
  refine (onVerdict_handed hid rfl he hs).trans ?_
  simp only [hr]
  rfl

theorem deferRefusal_limit (h : s.stu.floor < e.amount + e.tip ∨ s.stu.ceiling < s.sau.live.exposure + e.amount + e.tip) :
    deferRefusal e s = some .limit := by
  unfold deferRefusal
  by_cases hf : s.stu.floor < e.amount + e.tip
  · exact if_pos hf
  · rw [if_neg hf, if_pos (h.resolve_left hf)]

theorem deferRefusal_within (hf : e.amount + e.tip ≤ s.stu.floor) (hc : s.sau.live.exposure + e.amount + e.tip ≤ s.stu.ceiling) :
    deferRefusal e s = if 32 ≤ s.stu.deferred.length then some .full else none := by
  rw [deferRefusal, if_neg (Nat.not_lt.2 hf), if_neg (Nat.not_lt.2 hc)]

end

/-- Settles O31. -/
theorem verdictsDecideEntries : Obligations.VerdictsDecideEntries := by
  unfold Obligations.VerdictsDecideEntries
  refine ⟨fun s id code hl hid => ⟨request_of_refuse hl (onVerdict_badId hid), request_of_refuse hl (onVerdict_badId hid),
    request_of_refuse hl (onVerdict_badId hid)⟩, fun s id approval hl hlo hhi hok => ?_⟩
  refine ⟨fun he => ⟨?noneA, ?noneB, ?noneC⟩, fun e st he hst => ⟨?stateA, ?stateB, ?stateC⟩,
    fun code hbad => request_of_refuse hl (onVerdict_badFields hbad),
    fun code => ⟨request_of_refuse hl (onVerdict_badFields rfl), request_of_refuse hl (onVerdict_badFields rfl)⟩,
    fun e h he hs hh hpaying ham hbill => ⟨?approve, ?decline, fun hlim => ?limit, fun hf hc hfull => ?full,
      fun hf hc hroom => ?defer⟩⟩
  case noneA => exact request_of_refuse hl (onVerdict_noEntry ⟨hlo, hhi⟩ hok he)
  case noneB => exact request_of_refuse hl (onVerdict_noEntry ⟨hlo, hhi⟩ rfl he)
  case noneC => exact request_of_refuse hl (onVerdict_noEntry ⟨hlo, hhi⟩ rfl he)
  case stateA => exact request_of_refuse hl (onVerdict_notHanded ⟨hlo, hhi⟩ hok he hst)
  case stateB => exact request_of_refuse hl (onVerdict_notHanded ⟨hlo, hhi⟩ rfl he hst)
  case stateC => exact request_of_refuse hl (onVerdict_notHanded ⟨hlo, hhi⟩ rfl he hst)
  case approve =>
    obtain rfl := authEntry_id he
    have p := paidByCard_spec (c := .approved) (approval := approval) (p := ⟨.card, e.amount, e.tip, []⟩) hh hbill ham.symm
    exact ⟨_, request_of_served hl (serveVerdictApprove_handed ⟨hlo, hhi⟩ hok he hs), p.hire, p.others, congrArg Stu.queue p.stu,
      (congrArg Stu.deferred p.stu).trans rfl, rfl, p.notice, p.live, p.session, p.undelivered, p.miu, p.tfs, p.vbu, p.outside⟩
  case decline =>
    obtain rfl := authEntry_id he
    have f := failsPayment_spec (c := .declined) hh hpaying
    exact ⟨_, request_of_served hl (serveVerdictDecline_handed ⟨hlo, hhi⟩ he hs), f.hire, f.others, congrArg Stu.queue f.stu,
      f.sau, rfl, f.notice, f.session, f.undelivered, f.miu, f.tfs, f.vbu, f.outside⟩
  case limit => exact request_of_refuse hl (serveVerdictDefer_refused ⟨hlo, hhi⟩ he hs (deferRefusal_limit hlim))
  case full =>
    exact request_of_refuse hl (serveVerdictDefer_refused ⟨hlo, hhi⟩ he hs ((deferRefusal_within hf hc).trans (if_pos hfull)))
  case defer =>
    obtain rfl := authEntry_id he
    have serves := serveVerdictDefer_handed ⟨hlo, hhi⟩ he hs ((deferRefusal_within hf hc).trans (if_neg (Nat.not_le.2 hroom)))
    have p := paidByCard_spec (c := .approvedOffline) (approval := none) (p := ⟨.cardDeferred, e.amount, e.tip, []⟩)
      (s := deferring e s) (by simp [State.hire, deferring]; exact hh) hbill ham.symm
    have listed : (deferring e s).stu = { s.stu with
        deferred := s.stu.deferred ++ [newDeferred e s], lastDeferredId := (newDeferred e s).id } := by simp [deferring]
    have stu := p.stu
    rw [listed] at stu
    have link : (deferring e s).tlc = s.tlc := by simp [deferring]
    have console : (deferring e s).clc = s.clc := by simp [deferring]
    obtain ⟨hcku, hrbc, hsmr⟩ := p.outside
    refine ⟨_, newDeferred e s, request_of_served hl serves, p.hire, fun j hj => (p.others j hj).trans ?others,
      congrArg Stu.queue stu, congrArg Stu.deferred stu, ?entry, fun hlast => ?first, rfl, p.notice.trans ?notice,
      fun hshift => ?live, fun v hv => p.session v (link ▸ hv), fun hv => ?undelivered, p.miu.trans ?miu, p.tfs.trans ?tfs,
      p.vbu.trans ?vbu, ?outside⟩
    case others => simp [State.hire, deferring]
    case entry => rw [answered_stu, stu]; rfl
    case first =>
      obtain ⟨j, hnext, hfree, hused⟩ := nextId_first_unused (used := s.stu.deferred.map (·.id)) (last := s.stu.lastDeferredId)
        (by rw [List.length_map]; omega) hlast
      have hid : (newDeferred e s).id = triedId s.stu.lastDeferredId j := hnext
      refine ⟨j, hid, fun x hx hxid => hfree ?_, fun i hi => ?_⟩
      · rw [← hid, ← hxid]
        exact List.mem_map_of_mem hx
      · obtain ⟨x, hx, hxid⟩ := List.mem_map.1 (hused i hi)
        exact ⟨x, hx, hxid⟩
    case notice => rw [console]
    case live =>
      have posted : (deferring e s).sau = { s.sau with
          live := { s.sau.live with exposure := min (s.sau.live.exposure + (e.amount + e.tip)) 99999999 } } := 
        congrArg State.sau (post_running (by exact hshift))
      have live := p.live (by rw [posted]; exact hshift)
      rw [posted] at live
      exact live
    case undelivered =>
      obtain ⟨htlc, hterminal⟩ := p.undelivered (link ▸ hv)
      exact ⟨htlc.trans link, hterminal.trans (by rw [console]; rfl)⟩
    case outside => exact ⟨hcku.trans (by simp [deferring]), hrbc.trans (by simp [deferring]), hsmr.trans (by simp [deferring])⟩
    all_goals simp [deferring]

end Sys2Proof.Machine

/-! ## Cash and account tenders, the deferred list (R56, R104, R105, R108, R110, R122) -/

namespace Sys2Proof.Machine

/-! ### CASH_TENDER and ACCOUNT_TENDER -/

section
variable {slot amount : Nat} {k : Slot} {h : Hire} {s : State}

theorem serveCashTender_due (hk : slotOf slot = some k) (he : s.hire k = some h) (hs : h.state = .due)
    (ha : 1 ≤ amount ∧ amount ≤ maxAmount) : serveCashTender slot amount s =
      if h.remaining ≤ amount then
        served (cashReply (some h.remaining) (if amount - h.remaining = 0 then none else some (amount - h.remaining)) true none)
          (recordTender k ⟨.cash, h.remaining, 0, []⟩ s)
      else if h.tenders.length < 2 then
        served (cashReply none none false (some (h.remaining - amount))) (recordTender k ⟨.cash, amount, 0, []⟩ s)
      else refuse .badField s := by
  rw [serveCashTender, within_eq_true_iff.2 ha, onHire_takes hk he (mem_due.2 hs)]

theorem serveAccountTender_due {account : List Byte} (hk : slotOf slot = some k) (he : s.hire k = some h) (hs : h.state = .due)
    (haccount : accountOk account = true) (ha : 1 ≤ amount ∧ amount ≤ maxAmount) : serveAccountTender slot account amount s =
      if h.remaining < amount ∨ (2 ≤ h.tenders.length ∧ amount ≠ h.remaining) then refuse .badField s
      else served (be 4 (h.remaining - amount) ++ flagByte (h.remaining == amount))
        (recordTender k ⟨.account, amount, 0, account⟩ s) := by
  rw [serveAccountTender, haccount, within_eq_true_iff.2 ha, Bool.true_and, onHire_takes hk he (mem_due.2 hs)]

end

/-- Settles O32. -/
theorem cashAndAccountTendersAreTaken : Obligations.CashAndAccountTendersAreTaken := by
  unfold Obligations.CashAndAccountTendersAreTaken
  intro s slot k h amount hl hk he hs hb hlo hhi
  have cash := serveCashTender_due hk he hs ⟨hlo, hhi⟩
  have onAccount (account : List Byte) (ha : accountOk account = true) := serveAccountTender_due hk he hs ha ⟨hlo, hhi⟩
  refine ⟨fun hr => ?cashCloses, fun hr hn => ?cashLowers, fun hr hn => ?cashThird, fun account ha hr => ?accountCloses,
    fun account ha hr hn => ?accountLowers, fun account ha hbad => request_of_refuse hl ((onAccount account ha).trans (if_pos hbad))⟩
  case cashCloses =>
    have change : (if amount - h.remaining = 0 then none else some (amount - h.remaining))
        = if amount = h.remaining then none else some (amount - h.remaining) :=
      if_congr ⟨fun e => by omega, fun e => by omega⟩ rfl rfl
    rw [if_pos hr, change, recordTender_closes he hb rfl] at cash
    exact request_of_served hl cash
  case cashLowers =>
    rw [if_neg (Nat.not_le.2 hr), if_pos hn, recordTender_partial he hb hr hn] at cash
    exact ⟨_, _, request_of_served hl cash, State.setHire_hire_same .., hs, rfl, Hire.tendered_remaining hb, rfl, rfl, rfl,
      fun j hj => State.setHire_hire_ne _ _ hj, rfl, rfl, rfl, rfl, rfl, rfl⟩
  case cashThird =>
    rw [if_neg (Nat.not_le.2 hr), if_neg (Nat.not_lt.2 hn)] at cash
    exact request_of_refuse hl cash
  case accountCloses =>
    have serves := onAccount account ha
    subst hr
    rw [if_neg (by simp), recordTender_closes he hb rfl, Nat.sub_self, beq_self_eq_true] at serves
    exact request_of_served hl serves
  case accountLowers =>
    have serves := onAccount account ha
    rw [if_neg (by omega), recordTender_partial he hb hr hn, beq_false_of_ne (Nat.ne_of_gt hr)] at serves
    exact ⟨_, _, request_of_served hl serves, State.setHire_hire_same .., hs, rfl, Hire.tendered_remaining hb, rfl, rfl, rfl,
      fun j hj => State.setHire_hire_ne _ _ hj, rfl, rfl, rfl, rfl, rfl, rfl⟩

/-! ### DEFERRED_OUTCOME and DEFERRED_READ -/

theorem flagOf_le_one {n : Nat} (h : n ≤ 1) : flagOf n = some (n == 1) := by
  rcases Nat.le_one_iff_eq_zero_or_eq_one.1 h with rfl | rfl <;> rfl

section
variable {id outcome : Nat} {s : State}

theorem serveDeferredOutcome_fields (hid : 1 ≤ id ∧ id ≤ 255) (ho : outcome ≤ 1) : serveDeferredOutcome id outcome s =
    if ¬ shiftRuns s then refuse .notAllowed s
    else
      match s.stu.deferred.find? fun d => d.id == id with
      | none => refuse .notFound s
      | some d =>
        served []
          (post (postLate (!(outcome == 1)) (d.amount + d.tip))
            (s.setStu { s.stu with deferred := s.stu.deferred.filter fun x => x.id != id })) := by
  simp only [serveDeferredOutcome, flagOf_le_one ho]
  exact if_neg (not_not.2 (within_eq_true_iff.2 hid))

theorem serveDeferredOutcome_none (hid : 1 ≤ id ∧ id ≤ 255) (ho : outcome ≤ 1) (hs : s.sau.shift ≠ .closed)
    (hd : ∀ d ∈ s.stu.deferred, d.id ≠ id) : serveDeferredOutcome id outcome s = refuse .notFound s := by
  have none : (s.stu.deferred.find? fun d => d.id == id) = none := by
    rw [List.find?_eq_none]
    exact fun d hmem => by simpa using hd d hmem
  rw [serveDeferredOutcome_fields hid ho, if_neg (not_not.2 (shiftRuns_eq_true_iff.2 hs))]
  simp only [none]

theorem serveDeferredOutcome_entry {d : Deferred} (hid : 1 ≤ id ∧ id ≤ 255) (ho : outcome ≤ 1) (hs : s.sau.shift ≠ .closed)
    (hd : s.stu.deferred.find? (fun d => d.id == id) = some d) : serveDeferredOutcome id outcome s =
      served [] ((s.setStu { s.stu with deferred := s.stu.deferred.filter fun x => x.id != id }).setSau
        { s.sau with live := postLate (!(outcome == 1)) (d.amount + d.tip) s.sau.live }) := by
  rw [serveDeferredOutcome_fields hid ho, if_neg (not_not.2 (shiftRuns_eq_true_iff.2 hs))]
  simp only [hd]
  exact congrArg (served []) (post_running (by exact hs))

theorem serveDeferredRead_entry {n : Nat} {d : Deferred} (hn : n ≤ 31) (hd : s.stu.deferred[n]? = some d) :
    serveDeferredRead n s = served
      (be 1 d.id ++ be 2 d.shift ++ be 2 d.hire ++ be 4 d.amount ++ be 4 d.tip ++ d.token ++ d.time.toBytes
        ++ flagByte d.aged ++ be 1 s.stu.deferred.length) s := by
  rw [serveDeferredRead, if_neg (Nat.not_lt.2 hn)]
  simp only [hd]

theorem serveDeferredRead_none {n : Nat} (hn : n ≤ 31) (hd : s.stu.deferred.length ≤ n) :
    serveDeferredRead n s = refuse .notFound s := by
  have none : s.stu.deferred[n]? = none := List.getElem?_eq_none hd
  rw [serveDeferredRead, if_neg (Nat.not_lt.2 hn)]
  simp only [none]

end

/-- Settles O33. -/
theorem deferredEntriesAreReportedAndRead : Obligations.DeferredEntriesAreReportedAndRead := by
  unfold Obligations.DeferredEntriesAreReportedAndRead
  intro s hl
  refine ⟨fun id outcome hlo hhi ho hs => ?closed, fun id outcome hlo hhi ho hs hd => ?noEntry,
    fun id outcome d hlo hhi ho hs hd => ?reports, fun n d hn hd => request_of_served hl (serveDeferredRead_entry hn hd),
    fun n hn hd => request_of_refuse hl (serveDeferredRead_none hn hd), fun n hn => request_of_refuse hl (if_pos hn)⟩
  case closed =>
    refine request_of_refuse hl ((serveDeferredOutcome_fields ⟨hlo, hhi⟩ ho).trans (if_pos ?_))
    rw [shiftRuns_eq_false_iff.2 hs]
    exact Bool.false_ne_true
  case noEntry => exact request_of_refuse hl (serveDeferredOutcome_none ⟨hlo, hhi⟩ ho hs hd)
  case reports =>
    have serves := serveDeferredOutcome_entry ⟨hlo, hhi⟩ ho hs hd
    rcases Nat.le_one_iff_eq_zero_or_eq_one.1 ho with rfl | rfl <;> exact request_of_served hl serves

end Sys2Proof.Machine

/-! ## The terminal link: exchanges, loss and good replies (R80 to R82, R92) -/

namespace Sys2Proof.Machine

/-! ### The loss of the link (R81, R92) -/

/-- The state after the fifth unanswered exchange, the session ended, before what becomes of its hire (R92). -/
def lostLink (v : Session) (s : State) : State :=
  (raise .terminalLost (s.setTlc ⟨false, 5, s.tlc.lastState, none, none, none⟩)).setPiu (s.piu.leftPin (some v))

section
variable {s : State}

theorem missReply_counts (h : ¬ (s.tlc.unanswered = 4 ∧ s.tlc.up = true)) : missReply s =
    s.setTlc { s.tlc with unanswered := min (s.tlc.unanswered + 1) 255, exchange := none } := by
  refine if_neg ?_
  rintro ⟨h5, hup⟩
  have : min (s.tlc.unanswered + 1) 255 = 5 := h5
  exact h ⟨by omega, hup⟩

theorem missReply_loses (h4 : s.tlc.unanswered = 4) (hup : s.tlc.up = true) :
    missReply s = loseTerminal (s.setTlc { s.tlc with unanswered := 5, exchange := none }) := by
  have five : satAdd 255 s.tlc.unanswered 1 = 5 := by rw [h4]; rfl
  simp only [missReply, five]
  exact if_pos ⟨trivial, hup⟩

theorem loseTerminal_noSession (hv : s.tlc.session = none) :
    loseTerminal s = raise .terminalLost (s.setTlc { s.tlc with up := false }) := by
  simp only [loseTerminal, hv]

/-- The link's loss ends the session that it finds. -/
theorem endSession_lost {v : Session} (hv : s.tlc.session = some v) :
    endSession (emptyMessage (raise .terminalLost ((s.setTlc { s.tlc with unanswered := 5, exchange := none }).setTlc
      { s.tlc with unanswered := 5, exchange := none, up := false }))) = lostLink v s := by
  rw [endSession_eq]
  unfold lostLink
  rw [← hv]
  rfl

theorem missReply_showing {v : Session} (h4 : s.tlc.unanswered = 4) (hup : s.tlc.up = true) (hv : s.tlc.session = some v)
    (hs : v.state = .inPhase .showing ∨ v.state = .pin .showing) : missReply s = paymentFailure v.slot (lostLink v s) := by
  have phase : v.phase = some .showing := by rcases hs with h | h <;> simp [Session.phase, h]
  rw [missReply_loses h4 hup, ← endSession_lost hv]
  simp only [loseTerminal, State.setTlc_tlc, hv, phase]

theorem missReply_awaiting {v : Session} (h4 : s.tlc.unanswered = 4) (hup : s.tlc.up = true) (hv : s.tlc.session = some v)
    (hs : v.state = .inPhase .awaiting ∨ v.state = .pin .awaiting) : missReply s = lostLink v s := by
  have phase : v.phase = some .awaiting := by rcases hs with h | h <;> simp [Session.phase, h]
  rw [missReply_loses h4 hup, ← endSession_lost hv]
  simp only [loseTerminal, State.setTlc_tlc, hv, phase]

/-- In RESULT a result of approval that stands undelivered is reported (R92). -/
theorem missReply_result {v : Session} (h4 : s.tlc.unanswered = 4) (hup : s.tlc.up = true) (hv : s.tlc.session = some v)
    (hs : v.state = .result) :
    (∀ c a, s.tlc.slot = some (.result c a) → (c = .approved ∨ c = .approvedOffline) →
      missReply s = raise .resultUndelivered (lostLink v s)) ∧
    ((∀ c a, s.tlc.slot = some (.result c a) → c ≠ .approved ∧ c ≠ .approvedOffline) → missReply s = lostLink v s) := by
  have phase : v.phase = none := by simp [Session.phase, hs]
  rw [missReply_loses h4 hup, ← endSession_lost hv]
  simp only [loseTerminal, State.setTlc_tlc, hv, phase]
  refine ⟨fun c a hslot hc => ?_, fun hslot => ?_⟩
  · rcases hc with rfl | rfl <;> simp only [hslot]
  · split
    · next a he => exact absurd rfl (hslot _ a he).1
    · next a he => exact absurd rfl (hslot _ a he).2
    · rfl

/-- What every loss of the link leaves (R81, R92). -/
structure LosesLink (s t : State) : Prop where
  up : t.tlc.up = false
  unanswered : t.tlc.unanswered = 5
  session : t.tlc.session = none
  exchange : t.tlc.exchange = none
  stu : t.stu = s.stu
  sau : t.sau = s.sau
  miu : t.miu = s.miu
  vbu : t.vbu = s.vbu
  outside : outsideKept s t

theorem losesLink_lostLink (v : Session) (s : State) : LosesLink s (lostLink v s) :=
  ⟨rfl, rfl, rfl, rfl, rfl, rfl, rfl, rfl, rfl, rfl, rfl⟩

theorem LosesLink.paymentFailure {t : State} (h : LosesLink s t) (k : Slot) : LosesLink s (paymentFailure k t) := by
  obtain ⟨hu, hn, hs, hx, hstu, hsau, hmiu, hvbu, hc, hr, hm⟩ := h
  exact ⟨by simpa, by simpa, by simpa, by simpa, by simpa, by simpa, by simpa, by simpa, by simpa, by simpa, by simpa⟩

theorem LosesLink.raise {t : State} (h : LosesLink s t) (r : Reason) : LosesLink s (raise r t) := by
  obtain ⟨hu, hn, hs, hx, hstu, hsau, hmiu, hvbu, hc, hr, hm⟩ := h
  exact ⟨hu, hn, hs, hx, hstu, hsau, hmiu, hvbu, hc, hr, hm⟩

/-- The session of a link that is lost: the phases in which it can be. -/
theorem Session.phases (v : Session) : (v.state = .inPhase .showing ∨ v.state = .pin .showing) ∨
    (v.state = .inPhase .awaiting ∨ v.state = .pin .awaiting) ∨ v.state = .result := by
  rcases v.state with (_ | _) | (_ | _) | _ <;> simp

/-- Is a message a result of approval? -/
theorem approval_or_not (m : Option TermMsg) : (∃ c a, m = some (.result c a) ∧ (c = .approved ∨ c = .approvedOffline)) ∨
    ∀ c a, m = some (.result c a) → c ≠ .approved ∧ c ≠ .approvedOffline := by
  rw [or_iff_not_imp_left]
  intro h c a hm
  exact not_or.1 fun hc => h ⟨c, a, hm, hc⟩

theorem missReply_losesLink {v : Session} (h4 : s.tlc.unanswered = 4) (hup : s.tlc.up = true) (hv : s.tlc.session = some v) :
    LosesLink s (missReply s) ∧ (missReply s).tlc.slot = none := by
  rcases v.phases with hs | hs | hs
  · rw [missReply_showing h4 hup hv hs]
    exact ⟨(losesLink_lostLink v s).paymentFailure v.slot, by rw [paymentFailure_tlc]; rfl⟩
  · rw [missReply_awaiting h4 hup hv hs]
    exact ⟨losesLink_lostLink v s, rfl⟩
  · obtain ⟨happroved, hother⟩ := missReply_result h4 hup hv hs
    rcases approval_or_not s.tlc.slot with ⟨c, a, hm, hc⟩ | hm
    · rw [happroved c a hm hc]
      exact ⟨(losesLink_lostLink v s).raise _, rfl⟩
    · rw [hother hm]
      exact ⟨losesLink_lostLink v s, rfl⟩

theorem missReply_losesLink_noSession (h4 : s.tlc.unanswered = 4) (hup : s.tlc.up = true) (hv : s.tlc.session = none) :
    missReply s = raise .terminalLost (s.setTlc { s.tlc with unanswered := 5, exchange := none, up := false }) := by
  rw [missReply_loses h4 hup, loseTerminal_noSession (by exact hv)]
  rfl

end

/-! ### Exchanges (R80, R81) -/

theorem exchangeUnanswered_misses {s : State} (hp : powered s = true) (hx : s.tlc.exchange ≠ none) :
    exec .exchangeUnanswered s = .next (missReply s) := by
  rw [exec_event (c := .exchangeUnanswered) rfl hp, if_pos (Option.isSome_iff_ne_none.2 hx)]

/-- Settles O34. -/
theorem terminalExchangesAndLoss : Obligations.TerminalExchangesAndLoss := by
  unfold Obligations.TerminalExchangesAndLoss
  intro s hp
  refine ⟨fun hx => ?begins, fun hx hn => ?counts, fun hx h4 hup => ?loses⟩
  case begins =>
    rw [exec_event (c := .terminalExchange) rfl hp, beginExchange, if_neg (by rw [hx]; exact Bool.false_ne_true)]
  case counts => rw [exchangeUnanswered_misses hp hx, missReply_counts hn]
  case loses =>
    have lost : exec .terminalLinkLost s = .next (missReply s) := by
      rw [exec_event (c := .terminalLinkLost) rfl hp, if_pos ⟨Option.isSome_iff_ne_none.2 hx, hup, h4⟩]
    refine ⟨_, lost, exchangeUnanswered_misses hp hx, ?_⟩
    cases hv : s.tlc.session with
    | none =>
      have e := missReply_losesLink_noSession h4 hup hv
      rw [e]
      exact ⟨rfl, rfl, hv, rfl, fun _ => rfl, nofun, rfl, rfl, rfl, rfl, rfl, rfl, rfl⟩
    | some v =>
      obtain ⟨f, hslot⟩ := missReply_losesLink h4 hup hv
      refine ⟨f.up, f.unanswered, f.session, f.exchange, nofun, ?_, f.stu, f.sau, f.miu, f.vbu, f.outside⟩
      rintro _ ⟨⟩
      refine ⟨hslot, fun h hs he hh => ?shown, fun hs => ?awaits, fun hs => ⟨?fen, ?approved, ?other⟩⟩
      case shown =>
        obtain ⟨hhire, hothers, hnotice, -⟩ := paymentFailure_spec (k := v.slot) (h := h) (s := lostLink v s) he hh
        rw [missReply_showing h4 hup hv hs]
        refine ⟨hhire, hothers, hnotice.trans (congrArg (Notice.addReason · 3) ?_)⟩
        exact raise_get_ne .terminalLost _ (by cases v.slot <;> decide)
      case awaits => rw [missReply_awaiting h4 hup hv hs]; rfl
      all_goals obtain ⟨happroved, hother⟩ := missReply_result h4 hup hv hs
      case fen =>
        rcases approval_or_not s.tlc.slot with ⟨c, a, hm, hc⟩ | hm
        · rw [happroved c a hm hc]; rfl
        · rw [hother hm]; rfl
      case approved =>
        intro c a hm hc
        rw [happroved c a hm hc]
        rfl
      case other =>
        intro hm
        rw [hother hm]
        rfl

end Sys2Proof.Machine

/-! ## Good replies of the terminal (R80 to R82, R86, R206, R207) -/

namespace Sys2Proof.Machine

/-! ### The frame of a good reply -/

theorem be_two (n : Nat) : ∃ hi lo, be 2 n = [hi, lo] := ⟨_, _, rfl⟩

theorem goodReplyBody_cons (start hi lo kind : Byte) (rest : List Byte) : goodReplyBody (start :: hi :: lo :: kind :: rest) =
    if start = 0xD2 ∧ 1 ≤ beValue [hi, lo] ∧ beValue [hi, lo] ≤ 260 ∧ rest.length = beValue [hi, lo] + 1 ∧ kind = 0x81
        ∧ rest.drop (beValue [hi, lo] - 1)
          = be 2 (crc16 (hi :: lo :: kind :: rest.take (beValue [hi, lo] - 1))).toNat
    then stateReply (rest.take (beValue [hi, lo] - 1)) else none := rfl

theorem goodReplyBody_linkFrame {body : List Byte} (h : body.length ≤ 259) :
    goodReplyBody (linkFrame 0xD2 0x81 body) = stateReply body := by
  obtain ⟨hi, lo, hbe⟩ := be_two (body.length + 1)
  have value : beValue [hi, lo] = body.length + 1 := by rw [← hbe, beValue_be_two (by omega)]
  have frame : linkFrame 0xD2 0x81 body =
      0xD2 :: hi :: lo :: 0x81 :: (body ++ be 2 (crc16 (hi :: lo :: 0x81 :: body)).toNat) := by
    unfold linkFrame
    simp only [hbe]
    rfl
  obtain ⟨c, d, hcrc⟩ := be_two (crc16 (hi :: lo :: 0x81 :: body)).toNat
  rw [frame, goodReplyBody_cons, value, Nat.add_sub_cancel, List.take_left, List.drop_left, if_pos]
  refine ⟨rfl, by omega, by omega, ?_, rfl, rfl⟩
  rw [hcrc, List.length_append]
  rfl

/-! ### What a good reply leaves (R81, R82) -/

/-- What the reply's own effects leave: all but the terminal link, the PIN mute and the free indices (R82, R86). -/
structure ReplyKeeps (s t : State) : Prop where
  clc : t.clc = s.clc
  fen : t.fen = s.fen
  stu : t.stu = s.stu
  sau : t.sau = s.sau
  miu : t.miu = s.miu
  vbu : t.vbu = s.vbu
  outside : outsideKept s t

theorem ReplyKeeps.refl (s : State) : ReplyKeeps s s := ⟨rfl, rfl, rfl, rfl, rfl, rfl, rfl, rfl, rfl⟩

theorem ReplyKeeps.trans {s t u : State} (h : ReplyKeeps s t) (h' : ReplyKeeps t u) : ReplyKeeps s u := by
  obtain ⟨hc, hb, hr⟩ := h.outside
  obtain ⟨hc', hb', hr'⟩ := h'.outside
  exact ⟨h'.clc.trans h.clc, h'.fen.trans h.fen, h'.stu.trans h.stu, h'.sau.trans h.sau, h'.miu.trans h.miu,
    h'.vbu.trans h.vbu, hc'.trans hc, hb'.trans hb, hr'.trans hr⟩

/-- The link after a good reply: UP, nothing unanswered, and BACK reported if it was LOST (R81). -/
def relinked (s : State) : State :=
  (s.setTlc { s.tlc with unanswered := 0, exchange := none, up := true }).setNotice .terminal
    (if s.tlc.up then s.clc.notices.terminal else s.clc.notices.terminal.addReason 1)

/-- The terminal link once the message of an exchange was delivered (R82). -/
theorem deliver_final {m : TermMsg} {s : State} (hm : s.tlc.slot = some m) (hf : m.isFinal = true) :
    deliver true s = endSession (emptyMessage s) := by
  simp only [deliver, hm, if_true, hf]

theorem deliver_other {m : TermMsg} {s : State} (hm : s.tlc.slot = some m) (hf : m.isFinal = false) :
    deliver true s = emptyMessage s := by
  simp only [deliver, hm, if_true, hf, Bool.false_eq_true, if_false]

theorem deliver_nothing {carried : Bool} {s : State} (h : carried = false ∨ s.tlc.slot = none) : deliver carried s = s := by
  rcases h with rfl | h
  · unfold deliver
    split <;> rfl
  · simp only [deliver, h]

theorem deliver_spec (carried : Bool) (s : State) : ReplyKeeps s (deliver carried s) ∧
    (deliver carried s).tlc.up = s.tlc.up ∧ (deliver carried s).tlc.unanswered = s.tlc.unanswered ∧
    (s.tlc.exchange = none → (deliver carried s).tlc.exchange = none) ∧
    (deliver carried s).tlc.slot = if carried then none else s.tlc.slot := by
  cases carried with
  | false =>
    rw [deliver_nothing (.inl rfl)]
    exact ⟨.refl s, rfl, rfl, id, rfl⟩
  | true =>
    cases hm : s.tlc.slot with
    | none =>
      rw [deliver_nothing (.inr hm)]
      exact ⟨.refl s, rfl, rfl, id, hm⟩
    | some m =>
      have emptied : s.tlc.exchange = none → (emptyMessage s).tlc.exchange = none := fun h => by simp [emptyMessage, h]
      cases hf : m.isFinal with
      | true =>
        rw [deliver_final hm hf, endSession_eq]
        exact ⟨⟨rfl, rfl, rfl, rfl, rfl, rfl, rfl, rfl, rfl⟩, rfl, rfl, emptied, rfl⟩
      | false =>
        rw [deliver_other hm hf]
        exact ⟨⟨rfl, rfl, rfl, rfl, rfl, rfl, rfl, rfl, rfl⟩, rfl, rfl, emptied, rfl⟩

/-- The session after a state value of the terminal: in PIN while the terminal is (R86). -/
def Session.follow (st : TermState) (v : Session) : Session :=
  match v.state with
  | .inPhase p => if st = .pinEntry then { v with state := .pin p } else v
  | .pin p => if st = .pinEntry then v else { v with state := .inPhase p }
  | .result => v

theorem Session.follow_result {st : TermState} {v : Session} (h : v.state = .result) : v.follow st = v := by
  simp only [Session.follow, h]

theorem Session.follow_open {st : TermState} {v : Session} {p : PayPhase} {q : PayPhase → SessionState}
    (h : v.state = .inPhase p ∨ v.state = .pin p) (hq : q = if st = .pinEntry then .pin else .inPhase) :
    v.follow st = { v with state := q p } := by
  obtain ⟨state, slot, hire, amount, maxTip, current⟩ := v
  subst hq
  rcases h with rfl | rfl <;> by_cases hs : st = .pinEntry <;> simp [Session.follow, hs]

theorem takeTermState_tlc (st : TermState) (s : State) : (takeTermState st s).tlc =
    { s.tlc with lastState := some st, session := s.tlc.session.map (·.follow st) } := by
  cases hv : s.tlc.session with
  | none =>
    simp only [takeTermState, State.setTlc_tlc, hv]
    rfl
  | some v =>
    obtain ⟨state, slot, hire, amount, maxTip, current⟩ := v
    rcases state with p | p | _ <;> by_cases hs : st = .pinEntry <;>
      simp [takeTermState, State.setTlc_tlc, hv, Session.follow, hs]

theorem takeTermState_keeps (st : TermState) (s : State) : ReplyKeeps s (takeTermState st s) := by
  unfold takeTermState
  dsimp only
  split
  · exact ⟨rfl, rfl, rfl, rfl, rfl, rfl, rfl, rfl, rfl⟩
  · split
    · split <;> exact ⟨rfl, rfl, rfl, rfl, rfl, rfl, rfl, rfl, rfl⟩
    · split <;> exact ⟨rfl, rfl, rfl, rfl, rfl, rfl, rfl, rfl, rfl⟩
    · exact ⟨rfl, rfl, rfl, rfl, rfl, rfl, rfl, rfl, rfl⟩

section
variable {st : TermState} {s : State} {v : Session} {p : PayPhase}

theorem takeTermState_begins (hv : s.tlc.session = some v) (hs : v.state = .inPhase p) (hst : st = .pinEntry) :
    (takeTermState st s).piu.pinMute = .muted ∧ (takeTermState st s).piu.chime = none := by
  simp only [takeTermState, State.setTlc_tlc, hv, hs, if_pos hst]
  exact ⟨rfl, rfl⟩

theorem takeTermState_ends (hv : s.tlc.session = some v) (hs : v.state = .pin p) (hst : st ≠ .pinEntry) :
    (takeTermState st s).piu = { s.piu with pinMute := .hold 2000 } := by
  simp only [takeTermState, State.setTlc_tlc, hv, hs, if_neg hst]
  rfl

/-- A state value that does not change whether the session is in PIN leaves the mute. -/
theorem takeTermState_piu (h : ∀ v, s.tlc.session = some v → v.follow st = v) : (takeTermState st s).piu = s.piu := by
  cases hv : s.tlc.session with
  | none => simp only [takeTermState, State.setTlc_tlc, hv]; rfl
  | some v =>
    have same := h v hv
    obtain ⟨state, slot, hire, amount, maxTip, current⟩ := v
    rcases state with p | p | _ <;> by_cases hs : st = .pinEntry <;>
      simp [takeTermState, State.setTlc_tlc, hv, Session.follow, hs] at same ⊢

end

/-- The state in which a good reply's tender or cancel is taken (R82). -/
def heard (st : TermState) (carried : Bool) (s : State) : State := takeTermState st (deliver carried (relinked s))

theorem relinked_eq (s : State) : (if s.tlc.up then s.setTlc { s.tlc with unanswered := 0, exchange := none }
    else raise .terminalBack ((s.setTlc { s.tlc with unanswered := 0, exchange := none }).setTlc
      { s.tlc with unanswered := 0, exchange := none, up := true })) = relinked s := by
  unfold relinked
  cases hup : s.tlc.up with
  | true =>
    rw [if_pos rfl, if_pos rfl, ← hup]
    rfl
  | false => rfl

section
variable {x : Exchange} {s : State} {st : TermState}

theorem takeReply_state (hx : s.tlc.exchange = some x) : takeReply ⟨st, false, none⟩ s = heard st x.carriesSlot s := by
  rw [heard, ← relinked_eq, show x.carriesSlot = s.tlc.exchange.any (·.carriesSlot) by rw [hx]; rfl]
  rfl

theorem takeReply_tender (hx : s.tlc.exchange = some x) (r : TenderRecord) :
    takeReply ⟨st, false, some r⟩ s = takeTender r (heard st x.carriesSlot s) := by
  rw [← takeReply_state hx]
  rfl

theorem takeReply_cancelled (hx : s.tlc.exchange = some x) :
    takeReply ⟨st, true, none⟩ s = takeCancelled (heard st x.carriesSlot s) := by
  rw [← takeReply_state hx]
  rfl

theorem goodReply_takes {frame : List Byte} {r : StateReply} (hp : powered s = true) (hx : s.tlc.exchange = some x)
    (hr : goodReplyBody frame = some r) : exec (.goodReply frame) s = .next (takeReply r s) := by
  rw [exec_event (c := .goodReply frame) rfl hp, if_pos (by rw [hx]; rfl)]
  simp only [hr]

theorem goodReply_misses {frame : List Byte} (hp : powered s = true) (hx : s.tlc.exchange = some x)
    (hr : goodReplyBody frame = none) : exec (.goodReply frame) s = .next (missReply s) := by
  rw [exec_event (c := .goodReply frame) rfl hp, if_pos (by rw [hx]; rfl)]
  simp only [hr]

end

/-- What every good reply leaves before its tender or cancel (R81, R82). -/
structure Heard (st : TermState) (carried : Bool) (s t : State) : Prop where
  up : t.tlc.up = true
  unanswered : t.tlc.unanswered = 0
  exchange : t.tlc.exchange = none
  lastState : t.tlc.lastState = some st
  slot : t.tlc.slot = if carried then none else s.tlc.slot
  terminal : t.clc.notices.terminal = if s.tlc.up then s.clc.notices.terminal else s.clc.notices.terminal.addReason 1
  notices : ∀ k, k ≠ .terminal → t.clc.notices.get k = s.clc.notices.get k
  fen : t.fen = s.fen
  stu : t.stu = s.stu
  sau : t.sau = s.sau
  miu : t.miu = s.miu
  vbu : t.vbu = s.vbu
  outside : outsideKept s t

theorem heard_spec (st : TermState) (carried : Bool) (s : State) : Heard st carried s (heard st carried s) := by
  obtain ⟨k, hup, hun, hex, hslot⟩ := deliver_spec carried (relinked s)
  have keeps := k.trans (takeTermState_keeps st (deliver carried (relinked s)))
  have link := takeTermState_tlc st (deliver carried (relinked s))
  exact {
    up := (congrArg Tlc.up link).trans hup
    unanswered := (congrArg Tlc.unanswered link).trans hun
    exchange := (congrArg Tlc.exchange link).trans (hex rfl)
    lastState := congrArg Tlc.lastState link
    slot := (congrArg Tlc.slot link).trans hslot
    terminal := congrArg (fun c : Clc => c.notices.terminal) keeps.clc
    notices := fun j hj => (congrArg (fun c : Clc => c.notices.get j) keeps.clc).trans (NoticeSet.get_set_ne _ _ hj)
    fen := keeps.fen, stu := keeps.stu, sau := keeps.sau, miu := keeps.miu, vbu := keeps.vbu
    outside := keeps.outside }

theorem heard_session {st : TermState} {carried : Bool} {s : State} (h : carried = false ∨ s.tlc.slot = none) :
    (heard st carried s).tlc.session = s.tlc.session.map (·.follow st) := by
  rw [heard, deliver_nothing (s := relinked s) h, takeTermState_tlc]
  rfl

/-- Settles O35. -/
theorem goodRepliesAreTaken : Obligations.GoodRepliesAreTaken := by
  unfold Obligations.GoodRepliesAreTaken
  refine ⟨fun body => goodReplyBody_linkFrame, fun s x frame hp hx => ⟨fun hr => ?none, fun st hr => ?taken⟩⟩
  case none =>
    rw [goodReply_misses hp hx hr, exchangeUnanswered_misses hp (by rw [hx]; exact nofun)]
  case taken =>
    have h := heard_spec st x.carriesSlot s
    have uncarried (hc : x.carriesSlot = false) : heard st x.carriesSlot s = takeTermState st (relinked s) := by
      rw [heard, deliver_nothing (.inl hc)]
    refine ⟨_, (goodReply_takes hp hx hr).trans (congrArg _ (takeReply_state hx)), h.unanswered, h.exchange, h.up, h.lastState,
      h.terminal, h.slot, fun m hm hc hf => ?final, fun v p hv hc hs hst => ?begins, fun v p hv hc hs hst => ?ends, h.fen,
      h.stu, h.sau, h.miu, h.vbu, h.outside⟩
    case final =>
      rw [hc, heard, deliver_final (m := m) (by exact hm) hf, takeTermState_tlc, endSession_eq]
      rfl
    case begins =>
      rw [heard_session (.inl hc), hv, Option.map_some, Session.follow_open (.inl hs) rfl, if_pos hst, uncarried hc]
      exact ⟨rfl, takeTermState_begins (s := relinked s) hv hs hst⟩
    case ends =>
      rw [heard_session (.inl hc), hv, Option.map_some, Session.follow_open (.inr hs) rfl, if_neg hst, uncarried hc]
      exact ⟨rfl, takeTermState_ends (s := relinked s) hv hs hst⟩

end Sys2Proof.Machine

/-! ## Tenders and cancels of the terminal (R86 to R90, R93, R94) -/

namespace Sys2Proof.Machine

/-! ### The session in the reply (R86) -/

theorem Session.state_ne_result {v : Session} {p : PayPhase} (h : v.phase = some p) : v.state ≠ .result := by
  rintro hr
  simp [Session.phase, hr] at h

/-- The phases in which a terminal state value leaves a session (R86). -/
theorem phase_of_state {st : TermState} {q : PayPhase → SessionState} (hq : q = if st = .pinEntry then .pin else .inPhase)
    (v : Session) (p : PayPhase) : Session.phase { v with state := q p } = some p ∧
      Session.toPhase .awaiting { v with state := q p } = { v with state := q .awaiting } := by
  subst hq
  split <;> exact ⟨rfl, rfl⟩

/-! ### A tender (R87, R88) -/

section
variable {r : TenderRecord} {v : Session} {s : State}

theorem repeatsTender_iff : repeatsTender r v s = true ↔
    v.phase = some .awaiting ∧ ∃ n e, v.current = some n ∧ authEntry s n = some e ∧ e.token = r.token := by
  simp only [repeatsTender, Bool.and_eq_true, beq_iff_eq, Option.any_eq_true, Option.bind_eq_some_iff]
  exact and_congr_right fun _ => ⟨fun ⟨e, ⟨n, hn, he⟩, ht⟩ => ⟨n, e, hn, he, ht⟩, fun ⟨n, e, hn, he, ht⟩ => ⟨e, ⟨n, hn, he⟩, ht⟩⟩

theorem takeTender_closed (h : ∀ v, s.tlc.session = some v → v.state = .result) : takeTender r s = raise .tenderRefused s := by
  cases hv : s.tlc.session with
  | none => simp only [takeTender, hv]
  | some v => simp only [takeTender, hv, if_pos (h v hv)]

theorem takeTender_open (hv : s.tlc.session = some v) (hs : v.state ≠ .result) : takeTender r s =
    if repeatsTender r v s then s
    else if r.echo ≠ v.amount ∨ v.maxTip < r.tip then adviseTender .refused s
    else if 8 ≤ s.stu.queue.length then adviseTender .busy s
    else createEntry r v s := by
  simp only [takeTender, hv, if_neg hs]

/-- The queue once a session's current entry is superseded by a retap (R88). -/
def supersedeCurrent (v : Session) (q : List AuthEntry) : List AuthEntry :=
  q.map fun y => if v.phase = some .awaiting ∧ v.current = some y.id then { y with state := .superseded } else y

/-- The entry that a tender makes (R87, R93). -/
def tenderEntry (r : TenderRecord) (v : Session) (s : State) : AuthEntry :=
  { id := nextId (s.stu.queue.map (·.id)) s.stu.lastId, slot := v.slot, hire := v.hire, amount := v.amount, tip := r.tip
    token := r.token, pinUsed := r.pinUsed, state := .queued, deadline := 120000 }

theorem createEntry_eq : createEntry r v s =
    ((setQueue (supersedeCurrent v s.stu.queue ++ [tenderEntry r v s]) s).setStu { s.stu with
      queue := supersedeCurrent v s.stu.queue ++ [tenderEntry r v s], lastId := (tenderEntry r v s).id }).setTlc
        { s.tlc with session := some { v.toPhase .awaiting with current := some (tenderEntry r v s).id } } := by
  cases hc : v.current with
  | none =>
    have kept : supersedeCurrent v s.stu.queue = s.stu.queue := by simp [supersedeCurrent, hc]
    simp only [createEntry, hc, kept, setQueue_stu, setQueue_tlc]
    rfl
  | some c =>
    by_cases hp : v.phase = some .awaiting
    · have kept : markEntry c .superseded s.stu.queue = supersedeCurrent v s.stu.queue := by
        simp [supersedeCurrent, markEntry, hc, hp, eq_comm]
      simp only [createEntry, hc, if_pos hp, kept, setQueue_stu, setQueue_tlc]
      rfl
    · have kept : supersedeCurrent v s.stu.queue = s.stu.queue := by simp [supersedeCurrent, hp]
      simp only [createEntry, hc, if_neg hp, kept, setQueue_stu, setQueue_tlc]
      rfl

/-- A new entry is QUEUED: AUTH_WAITING holds after it (R94). -/
theorem createEntry_authWaiting (h : s.clc.notices.authWaiting.holds = authWaiting s) :
    (createEntry r v s).clc.notices.authWaiting.holds = true := by
  have queued : ((supersedeCurrent v s.stu.queue ++ [tenderEntry r v s]).any fun e => e.state == .queued) = true := by
    rw [List.any_append]
    exact Bool.or_eq_true_iff.2 (.inr rfl)
  rw [createEntry_eq]
  refine (congrArg Notice.holds (setQueue_authWaiting ..)).trans ?_
  rw [queued]
  cases hw : authWaiting s with
  | true => exact h.trans hw
  | false => rfl

/-- What a tender leaves, whatever comes of it. -/
theorem takeTender_frame (r : TenderRecord) (s : State) : (takeTender r s).piu = s.piu ∧ (takeTender r s).fen = s.fen ∧
    (takeTender r s).sau = s.sau ∧ outsideKept s (takeTender r s) := by
  unfold takeTender
  split
  · exact ⟨rfl, rfl, rfl, rfl, rfl, rfl⟩
  · split_ifs
    · exact ⟨rfl, rfl, rfl, rfl, rfl, rfl⟩
    · exact ⟨rfl, rfl, rfl, rfl, rfl, rfl⟩
    · exact ⟨rfl, rfl, rfl, rfl, rfl, rfl⟩
    · exact ⟨rfl, rfl, rfl, rfl, rfl, rfl⟩
    · rw [createEntry_eq]
      exact ⟨setQueue_piu .., setQueue_fen .., setQueue_sau .., setQueue_cku .., setQueue_rbc .., setQueue_smr ..⟩

/-! ### A cancel (R90) -/

/-- The current entry of a session withdrawn (R90). -/
def withdrawCurrent (v : Session) (s : State) : State :=
  match v.current with
  | some n => setQueue (markEntry n .withdrawn s.stu.queue) s
  | none => s

theorem takeCancelled_open (hv : s.tlc.session = some v) (hs : v.state ≠ .result) : takeCancelled s =
    raise .tenderCancelled (paymentFailure v.slot (emptyMessage (endSession (withdrawCurrent v s)))) := by
  simp only [takeCancelled, hv, if_neg hs]
  cases hc : v.current <;> simp only [withdrawCurrent, hc]

theorem takeCancelled_closed (h : ∀ v, s.tlc.session = some v → v.state = .result) : takeCancelled s = s := by
  cases hv : s.tlc.session with
  | none => simp only [takeCancelled, hv]
  | some v => simp only [takeCancelled, hv, if_pos (h v hv)]

theorem withdrawCurrent_spec (v : Session) (s : State) :
    (withdrawCurrent v s).stu.queue
      = s.stu.queue.map (fun e => if v.current = some e.id then { e with state := .withdrawn } else e) ∧
    (∀ k, (withdrawCurrent v s).hire k = s.hire k) ∧
    (∀ k, (withdrawCurrent v s).clc.notices.get (hireKind k) = s.clc.notices.get (hireKind k)) ∧
    (withdrawCurrent v s).clc.notices.terminal = s.clc.notices.terminal ∧ (withdrawCurrent v s).tlc = s.tlc ∧
    (withdrawCurrent v s).piu = s.piu ∧ (withdrawCurrent v s).sau = s.sau ∧ outsideKept s (withdrawCurrent v s) := by
  cases hc : v.current with
  | none =>
    have none : withdrawCurrent v s = s := by simp only [withdrawCurrent, hc]
    rw [none]
    exact ⟨by simp, fun _ => rfl, fun _ => rfl, rfl, rfl, rfl, rfl, rfl, rfl, rfl⟩
  | some n =>
    simp only [withdrawCurrent, hc]
    refine ⟨?_, setQueue_hire _ _, setQueue_hireKind _ _, setQueue_terminal .., setQueue_tlc .., setQueue_piu ..,
      setQueue_sau .., setQueue_cku .., setQueue_rbc .., setQueue_smr ..⟩
    simp [markEntry, eq_comm]

/-- What a cancel leaves of an open session (R90). -/
structure Cancels (v : Session) (h : Hire) (s t : State) : Prop where
  session : t.tlc.session = none
  slot : t.tlc.slot = none
  queue : t.stu.queue = s.stu.queue.map fun e => if v.current = some e.id then { e with state := .withdrawn } else e
  hire : t.hire v.slot = some { h with state := .due }
  others : otherSlotsKept v.slot s t
  notice : t.clc.notices.get (hireKind v.slot) = (s.clc.notices.get (hireKind v.slot)).addReason 3
  terminal : t.clc.notices.terminal = s.clc.notices.terminal.addReason 2
  piu : t.piu = s.piu.leftPin (some v)
  sau : t.sau = s.sau
  outside : outsideKept s t

theorem takeCancelled_spec {h : Hire} (hv : s.tlc.session = some v) (hs : v.state ≠ .result) (he : s.hire v.slot = some h)
    (hh : h.state = .paying) : Cancels v h s (takeCancelled s) := by
  obtain ⟨wqueue, whire, wnotice, wterminal, wtlc, wpiu, wsau, wcku, wrbc, wsmr⟩ := withdrawCurrent_spec v s
  rw [takeCancelled_open hv hs]
  generalize hw : withdrawCurrent v s = w at *
  have ended : endSession w = (w.setTlc { s.tlc with session := none }).setPiu (s.piu.leftPin (some v)) := by
    rw [endSession_eq, wtlc, wpiu, hv]
  obtain ⟨fhire, fothers, fnotice, fterminal⟩ := paymentFailure_spec (k := v.slot) (h := h) (s := emptyMessage (endSession w))
    (by rw [ended]; exact (whire _).trans he) hh
  have other : hireKind v.slot ≠ .terminal := by cases v.slot <;> decide
  exact {
    session := by simp [ended, emptyMessage]
    slot := by simp [ended, emptyMessage]
    queue := by simp [ended, emptyMessage, wqueue]
    hire := fhire
    others := fun j hj => (fothers j hj).trans (by rw [ended]; exact whire j)
    notice := (raise_get_ne .tenderCancelled _ other).trans (fnotice.trans (by rw [ended]; exact congrArg (Notice.addReason · 3) (wnotice _)))
    terminal := congrArg (Notice.addReason · 2) (fterminal.trans (by rw [ended]; exact wterminal))
    piu := by simp [ended, emptyMessage]
    sau := by simp [ended, emptyMessage, wsau]
    outside := ⟨by simp [ended, emptyMessage, wcku], by simp [ended, emptyMessage, wrbc], by simp [ended, emptyMessage, wsmr]⟩ }

end

/-! ### Tenders and cancels in a good reply -/

section
variable {s : State} {x : Exchange} {v : Session} {p : PayPhase} {st : TermState} {q : PayPhase → SessionState}

theorem heard_open (hslot : s.tlc.slot = none) (hv : s.tlc.session = some v) (hs : v.state = .inPhase p ∨ v.state = .pin p)
    (hq : q = if st = .pinEntry then .pin else .inPhase) (c : Bool) :
    (heard st c s).tlc.session = some { v with state := q p } ∧ (heard st c s).tlc.slot = none := by
  refine ⟨?_, (heard_spec st c s).slot.trans ?_⟩
  · rw [heard_session (.inr hslot), hv, Option.map_some, Session.follow_open hs hq]
  · rw [hslot, ite_self]

/-- The PIN mute after a good reply of an open session (R86). -/
theorem heard_piu (hslot : s.tlc.slot = none) (hv : s.tlc.session = some v) (hs : v.state = .inPhase p ∨ v.state = .pin p)
    (hq : q = if st = .pinEntry then .pin else .inPhase) (c : Bool) :
    (v.state = q p → (heard st c s).piu = s.piu) ∧
    (v.state = .pin p → st ≠ .pinEntry → (heard st c s).piu = { s.piu with pinMute := .hold 2000 }) ∧
    (v.state = .inPhase p → st = .pinEntry → (heard st c s).piu.pinMute = .muted ∧ (heard st c s).piu.chime = none) := by
  have undelivered : heard st c s = takeTermState st (relinked s) := by
    rw [heard, deliver_nothing (s := relinked s) (.inr hslot)]
  rw [undelivered]
  refine ⟨fun hsame => (takeTermState_piu (s := relinked s) fun w hw => ?_).trans rfl,
    fun hpin hst => takeTermState_ends (s := relinked s) hv hpin hst,
    fun hin hst => takeTermState_begins (s := relinked s) hv hin hst⟩
  obtain rfl := Option.some.inj (hv.symm.trans hw)
  rw [Session.follow_open hs hq, ← hsame]

end

/-- The link after a good reply without an open session, the message in the slot final if there is one (R82). -/
theorem heard_closed {s : State} (st : TermState) (c : Bool) (hv : ∀ v, s.tlc.session = some v → v.state = .result)
    (hm : s.tlc.slot = none ∨ ∃ m, s.tlc.slot = some m ∧ m.isFinal = true) :
    (c = false ∨ s.tlc.slot = none → (heard st c s).tlc =
      { s.tlc with unanswered := 0, exchange := none, up := true, lastState := some st }) ∧
    (c = true → s.tlc.slot ≠ none → (heard st c s).tlc = ⟨true, 0, some st, none, none, none⟩) ∧
    (∀ v, (heard st c s).tlc.session = some v → v.state = .result) ∧ (heard st c s).piu = s.piu := by
  have stays : s.tlc.session.map (·.follow st) = s.tlc.session := by
    cases hs : s.tlc.session with
    | none => rfl
    | some v => rw [Option.map_some, Session.follow_result (hv v hs)]
  have undelivered (h : c = false ∨ s.tlc.slot = none) : (heard st c s).tlc =
      { s.tlc with unanswered := 0, exchange := none, up := true, lastState := some st } := by
    rw [heard, deliver_nothing (s := relinked s) h, takeTermState_tlc]
    exact congrArg (fun x => (⟨true, 0, some st, s.tlc.slot, x, none⟩ : Tlc)) stays
  have delivered (h : c = true) (hslot : s.tlc.slot ≠ none) :
      (heard st c s).tlc = ⟨true, 0, some st, none, none, none⟩ := by
    obtain ⟨m, hm, hf⟩ := hm.resolve_left hslot
    rw [heard, h, deliver_final (s := relinked s) hm hf, takeTermState_tlc, endSession_eq]
    rfl
  refine ⟨undelivered, delivered, ?_⟩
  by_cases h : c = false ∨ s.tlc.slot = none
  · refine ⟨fun v hs => hv v ((congrArg Tlc.session (undelivered h)).symm.trans hs), ?_⟩
    rw [heard, deliver_nothing (s := relinked s) h]
    exact takeTermState_piu (s := relinked s) fun v hs => Session.follow_result (hv v hs)
  · obtain ⟨hc, hslot⟩ := not_or.1 h
    have hc := Bool.eq_true_of_not_eq_false hc
    refine ⟨fun v hs => ?_, ?_⟩
    · rw [delivered hc hslot] at hs
      exact nomatch hs
    · obtain ⟨m, hm, hf⟩ := hm.resolve_left hslot
      have unpinned : s.piu.leftPin s.tlc.session = s.piu := by
        cases hs : s.tlc.session with
        | none => rfl
        | some v => simp [Piu.leftPin, Session.inPin, hv v hs]
      rw [heard, hc, deliver_final (s := relinked s) hm hf, endSession_eq]
      exact (takeTermState_piu (by exact nofun)).trans unpinned

/-- Settles O36. -/
theorem tendersAndCancelsReachTheQueue : Obligations.TendersAndCancelsReachTheQueue := by
  unfold Obligations.TendersAndCancelsReachTheQueue
  refine ⟨fun s x frame v p st q linked hp hx hslot hv hs hq hlinked => ⟨fun r hr => ?tender, fun h hr he hh => ?cancel⟩,
    fun s x frame st linked hp hx hv hm hlinked => ⟨fun r hr => ?lateTender, fun hr => ?lateCancel⟩⟩
  case tender =>
    have f := heard_spec st x.carriesSlot s
    obtain ⟨hsession, hempty⟩ := heard_open hslot hv hs hq x.carriesSlot
    have hpiu := heard_piu hslot hv hs hq x.carriesSlot
    have taken := (goodReply_takes hp hx hr).trans (congrArg _ (takeReply_tender hx r))
    obtain ⟨tpiu, tfen, tsau, tcku, trbc, tsmr⟩ := takeTender_frame r (heard st x.carriesSlot s)
    obtain ⟨hphase, htoPhase⟩ := phase_of_state hq v p
    have tender := takeTender_open (r := r) hsession (Session.state_ne_result hphase)
    have entry (n : Nat) : authEntry (heard st x.carriesSlot s) n = authEntry s n := by rw [authEntry, f.stu]; rfl
    have repeats := repeatsTender_iff (r := r) (v := { v with state := q p }) (s := heard st x.carriesSlot s)
    simp only [hphase, entry, Option.some.injEq] at repeats
    obtain ⟨hcku, hrbc, hsmr⟩ := f.outside
    have outside : outsideKept s (takeTender r (heard st x.carriesSlot s)) := ⟨tcku.trans hcku, trbc.trans hrbc, tsmr.trans hsmr⟩
    refine ⟨fun t ht => ?pin, fun hwaits hsame => ⟨_, taken, ?repeated⟩, fun hfresh => ?fresh⟩
    case pin =>
      obtain rfl := Host.Outcome.next.inj (taken.symm.trans ht)
      rw [tpiu]
      exact hpiu
    case repeated =>
      have same : takeTender r (heard st x.carriesSlot s) = heard st x.carriesSlot s :=
        tender.trans (if_pos (repeats.2 ⟨hwaits, hsame⟩))
      rw [same]
      exact ⟨f.stu, hsession, hempty, f.terminal.trans hlinked.symm, f.fen, f.sau, f.outside⟩
    case fresh =>
      have new : ¬ repeatsTender r { v with state := q p } (heard st x.carriesSlot s) = true := by
        rw [repeats]
        rintro ⟨hwaits, n, e, hn, he, htoken⟩
        rcases hfresh with hshow | hfresh
        · exact nomatch hwaits.symm.trans hshow
        · exact hfresh n e hn he htoken
      rw [if_neg new] at tender
      refine ⟨fun hecho htip hroom => ?created, fun hwrong => ⟨_, taken, ?wrong⟩, fun hecho htip hfull => ⟨_, taken, ?full⟩⟩
      case created =>
        rw [if_neg (by simp only [not_or, not_not, not_lt]; exact ⟨hecho, htip⟩), if_neg (by rw [f.stu]; omega)] at tender
        have queue : (createEntry r { v with state := q p } (heard st x.carriesSlot s)).stu = { s.stu with
            queue := (s.stu.queue.map fun y =>
              if p = .awaiting ∧ v.current = some y.id then { y with state := .superseded } else y)
                ++ [tenderEntry r { v with state := q p } (heard st x.carriesSlot s)]
            lastId := (tenderEntry r { v with state := q p } (heard st x.carriesSlot s)).id } := by
          rw [createEntry_eq, supersedeCurrent, hphase, f.stu]
          simp only [Option.some.injEq]
          rfl
        have link : (createEntry r { v with state := q p } (heard st x.carriesSlot s)).tlc =
            { (heard st x.carriesSlot s).tlc with session := some { v with
                state := q .awaiting, current := some (tenderEntry r { v with state := q p } (heard st x.carriesSlot s)).id } } := by
          rw [createEntry_eq, htoPhase]
          rfl
        have waiting : authWaiting (heard st x.carriesSlot s) = authWaiting s := by rw [authWaiting, f.stu]; rfl
        refine ⟨_, tenderEntry r { v with state := q p } (heard st x.carriesSlot s), taken, ?queue, ?entry, ?lastId, ?session,
          fun hholds => ?waits, ?empty, ?linked, tfen.trans f.fen, tsau.trans f.sau, outside⟩
        case queue => rw [tender, queue]
        case entry => rw [tenderEntry, f.stu]
        case lastId => rw [tender, queue]
        case session => rw [tender, link]
        case waits =>
          rw [tender]
          refine createEntry_authWaiting ?_
          rw [waiting, ← hholds]
          exact congrArg Notice.holds (f.notices .authWaiting nofun)
        case empty => rw [tender, link]; exact hempty
        case linked =>
          rw [tender, createEntry_eq]
          exact (setQueue_terminal ..).trans (f.terminal.trans hlinked.symm)
      case wrong =>
        rw [if_pos hwrong] at tender
        rw [tender]
        exact ⟨rfl, hsession, congrArg (Notice.addReason · 3) (f.terminal.trans hlinked.symm), f.stu, f.fen, f.sau, f.outside⟩
      case full =>
        rw [if_neg (by simp only [not_or, not_not, not_lt]; exact ⟨hecho, htip⟩), if_pos (by rw [f.stu]; exact hfull)] at tender
        rw [tender]
        exact ⟨rfl, hsession, congrArg (Notice.addReason · 3) (f.terminal.trans hlinked.symm), f.stu, f.fen, f.sau, f.outside⟩
  case cancel =>
    have f := heard_spec st x.carriesSlot s
    obtain ⟨hsession, hempty⟩ := heard_open hslot hv hs hq x.carriesSlot
    obtain ⟨hsame, hends, -⟩ := heard_piu hslot hv hs hq x.carriesSlot
    obtain ⟨hphase, htoPhase⟩ := phase_of_state hq v p
    have c := takeCancelled_spec hsession (Session.state_ne_result hphase) (h := h) ((congrArg (fun g : Fen => g.slots.get v.slot) f.fen).trans he) hh
    obtain ⟨hcku, hrbc, hsmr⟩ := f.outside
    obtain ⟨ccku, crbc, csmr⟩ := c.outside
    refine ⟨_, (goodReply_takes hp hx hr).trans (congrArg _ (takeReply_cancelled hx)), c.session, c.slot,
      c.queue.trans (by rw [f.stu]), c.hire,
      fun j hj => (c.others j hj).trans (congrArg (fun g : Fen => g.slots.get j) f.fen),
      c.notice.trans (congrArg (Notice.addReason · 3) (f.notices _ ?notice)), c.terminal.trans ?terminal, fun hin hst => ?unpinned,
      fun hpin => ?pinned, c.sau.trans f.sau, ccku.trans hcku, crbc.trans hrbc, csmr.trans hsmr⟩
    case notice => cases v.slot <;> decide
    case terminal => rw [f.terminal, hlinked]
    case unpinned =>
      rw [if_neg hst] at hq
      subst hq
      exact c.piu.trans (hsame hin)
    case pinned =>
      by_cases hst : st = .pinEntry
      · rw [if_pos hst] at hq
        subst hq
        exact congrArg Piu.pinMute c.piu
      · rw [if_neg hst] at hq
        subst hq
        exact (congrArg Piu.pinMute c.piu).trans (congrArg Piu.pinMute (hends (hpin.resolve_right hst) hst))
  case lateTender =>
    have f := heard_spec st x.carriesSlot s
    obtain ⟨hkept, hended, hclosed, hpiu⟩ := heard_closed st x.carriesSlot hv hm
    refine ⟨_, (goodReply_takes hp hx hr).trans (congrArg _ ((takeReply_tender hx r).trans (takeTender_closed hclosed))),
      hkept, hended, congrArg (Notice.addReason · 3) (f.terminal.trans hlinked.symm), f.stu, f.fen, f.sau, hpiu, f.outside⟩
  case lateCancel =>
    have f := heard_spec st x.carriesSlot s
    obtain ⟨hkept, hended, hclosed, hpiu⟩ := heard_closed st x.carriesSlot hv hm
    refine ⟨_, (goodReply_takes hp hx hr).trans (congrArg _ ((takeReply_cancelled hx).trans (takeCancelled_closed hclosed))),
      hkept, hended, f.terminal.trans hlinked.symm, f.stu, f.fen, f.sau, hpiu, f.outside⟩

end Sys2Proof.Machine

/-! ## Shift accounting (R114, R115, R119, R126, R127) -/

namespace Sys2Proof.Machine

/-! ### Second reports (R119) -/

theorem satAdd_of_le {max a b : Nat} (h : a + b ≤ max) : satAdd max a b = a + b := min_eq_left h

theorem sauSecondReport_takes {s : State} {r : SecondReport} {rest : List SecondReport} (hp : powered s = true)
    (hfirst : s.transit.sau = r :: rest) :
    exec .sauSecondReport s = .next (postReport r (s.setTransit { s.transit with sau := rest })) := by
  rw [exec_event (c := .sauSecondReport) rfl hp]
  simp only [takeSauReport, hfirst]

/-- The distances of the live record once a report is posted (R119). -/
theorem postReport_running {r : SecondReport} {s : State} (hs : s.sau.shift ≠ .closed)
    (hcap : s.sau.live.shiftDistance + r.metres ≤ 281474976710655)
    (hsum : s.sau.live.shiftDistance
      = s.sau.live.hiredDistance + s.sau.live.vacantDistance + s.sau.live.rejectedDistance) :
    postReport r s = s.setSau { s.sau with
      live := { s.sau.live with
        shiftDistance := s.sau.live.shiftDistance + r.metres
        rejectedDistance :=
          if r.mark = .normal then s.sau.live.rejectedDistance else s.sau.live.rejectedDistance + r.metres
        hiredDistance :=
          if r.mark = .normal ∧ 0 < runningCount s.fen.slots then s.sau.live.hiredDistance + r.metres
          else s.sau.live.hiredDistance
        vacantDistance :=
          if r.mark = .normal ∧ runningCount s.fen.slots = 0 then s.sau.live.vacantDistance + r.metres
          else s.sau.live.vacantDistance } } := by
  have shift : satAdd maxDistance s.sau.live.shiftDistance r.metres = s.sau.live.shiftDistance + r.metres := satAdd_of_le hcap
  have hired : satAdd maxDistance s.sau.live.hiredDistance r.metres = s.sau.live.hiredDistance + r.metres :=
    satAdd_of_le (by unfold maxDistance; omega)
  have vacant : satAdd maxDistance s.sau.live.vacantDistance r.metres = s.sau.live.vacantDistance + r.metres :=
    satAdd_of_le (by unfold maxDistance; omega)
  have rejected : satAdd maxDistance s.sau.live.rejectedDistance r.metres = s.sau.live.rejectedDistance + r.metres :=
    satAdd_of_le (by unfold maxDistance; omega)
  rw [postReport, post_running hs]
  simp only [shift, hired, vacant, rejected]
  by_cases hm : r.mark = .normal
  · by_cases hr : 0 < runningCount s.fen.slots
    · simp [hm, hr, Nat.ne_of_gt hr]
    · simp [hm, Nat.eq_zero_of_not_pos hr]
  · simp [hm]

/-- Settles O37. -/
theorem reportsKeepTheDistanceClasses : Obligations.ReportsKeepTheDistanceClasses := by
  unfold Obligations.ReportsKeepTheDistanceClasses
  intro s r rest hp hfirst
  have taken := sauSecondReport_takes hp hfirst
  refine ⟨fun hs => taken.trans (congrArg _ (post_closed (by exact hs))), fun hs v hv hcap hsum => ?posted⟩
  case posted =>
    subst hv
    rw [postReport_running (s := s.setTransit { s.transit with sau := rest }) hs hcap hsum] at taken
    refine ⟨_, _, taken, rfl, rfl, ?_, rfl, rfl, rfl, rfl, rfl, rfl, rfl⟩
    show s.sau.live.shiftDistance + r.metres = _
    by_cases hm : r.mark = .normal
    · by_cases hr : 0 < runningCount s.fen.slots
      · simp [hm, hr, Nat.ne_of_gt hr]
        omega
      · simp [hm, Nat.eq_zero_of_not_pos hr]
        omega
    · simp [hm]
      omega

/-! ### SHIFT_OPEN (R114, R115) -/

theorem Opening.inRange_iff {o : Opening} : o.inRange = true ↔ (1 ≤ o.driver ∧ o.driver ≤ 99999999) ∧
    (1 ≤ o.seats ∧ o.seats ≤ 6) ∧ (1 ≤ o.lag ∧ o.lag ≤ 255) ∧ o.floor ≤ 99999999 ∧ o.ceiling ≤ 99999999 := by
  simp only [Opening.inRange, Bool.and_eq_true, within_eq_true_iff, decide_eq_true_eq, and_assoc]
  rfl

section
variable {d n sh l f c : Nat} {b : Bool} {s : State}

theorem serveShiftOpen_badFields
    (h : d < 1 ∨ 99999999 < d ∨ n < 1 ∨ 6 < n ∨ flagOf sh = none ∨ l < 1 ∨ 255 < l ∨ 99999999 < f ∨ 99999999 < c) :
    serveShiftOpen d n sh l f c s = refuse .badField s := by
  cases hsh : flagOf sh with
  | none => simp only [serveShiftOpen, hsh]
  | some b =>
    simp only [serveShiftOpen, hsh]
    refine if_pos fun hin => ?_
    have range := Opening.inRange_iff.1 hin
    dsimp only at range
    rw [hsh] at h
    simp only [reduceCtorEq, false_or] at h
    omega

theorem serveShiftOpen_fields (hd : 1 ≤ d ∧ d ≤ 99999999) (hn : 1 ≤ n ∧ n ≤ 6) (hsh : flagOf sh = some b)
    (hl : 1 ≤ l ∧ l ≤ 255) (hf : f ≤ 99999999) (hc : c ≤ 99999999) :
    (∀ st, openRefusal s = some st → serveShiftOpen d n sh l f c s = refuse st s) ∧
    (openRefusal s = none → serveShiftOpen d n sh l f c s =
      served (be 2 (nextShift s.sau.number) ++ be 1 (if s.sau.slot0 = .free then 0 else 1)) (openShift ⟨d, n, b, l, f, c⟩ s)) := by
  have range : Opening.inRange ⟨d, n, b, l, f, c⟩ = true := Opening.inRange_iff.2 ⟨hd, hn, hl, hf, hc⟩
  simp only [serveShiftOpen, hsh, range, not_true_eq_false, if_false]
  exact ⟨fun st h => by simp only [h], fun h => by simp only [h]⟩

theorem openRefusal_running (h : s.sau.shift ≠ .closed) : openRefusal s = some .notAllowed :=
  if_pos (shiftRuns_eq_true_iff.2 h)

theorem openRefusal_closed (h : s.sau.shift = .closed) : openRefusal s =
    if ¬ s.tfs.valid then some .notAllowed
    else if ¬ s.miu.kValid then some .notAllowed
    else if s.miu.calActive then some .notAllowed
    else if s.miu.sealOpen then some .sealed
    else if s.sau.slot0 ≠ .free ∧ s.sau.slot1 ≠ .free then some .full
    else none := if_neg (by rw [shiftRuns_eq_false_iff.2 h]; exact Bool.false_ne_true)

/-- The vehicle that may open a shift: a tariff set, a calibrated and sealed meter (checks 3 to 5 of Table 6-2a). -/
theorem openRefusal_ready (h : s.sau.shift = .closed) (ht : s.tfs.valid = true) (hk : s.miu.kValid = true)
    (hc : s.miu.calActive = false) : openRefusal s =
      if s.miu.sealOpen then some .sealed
      else if s.sau.slot0 ≠ .free ∧ s.sau.slot1 ≠ .free then some .full
      else none := by
  rw [openRefusal_closed h, if_neg (not_not.2 ht), if_neg (not_not.2 hk), if_neg (hc ▸ Bool.false_ne_true)]

end

/-- What an opening leaves (R34, R75, R107, R115). -/
theorem openShift_spec (o : Opening) (s : State) :
    (openShift o s).sau = openSau o s ∧
    (openShift o s).fen = { s.fen with seats := o.seats, sharing := o.sharing, counter := 0 } ∧
    (openShift o s).vbu.lagLimit = o.lag ∧ (openShift o s).vbu.lagCount = o.lag ∧
    (openShift o s).vbu.get (openShift o s).vbu.console = none ∧
    (s.vbu.lagCount = 0 → (openShift o s).clc.notices.displayStale.holds = false) ∧
    (openShift o s).stu = { s.stu with floor := o.floor, ceiling := o.ceiling } ∧
    (openShift o s).sgu.desired = desiredImage (openShift o s) := by
  generalize hb : (s.setSau (openSau o s)).setFen { s.fen with seats := o.seats, sharing := o.sharing, counter := 0 } = t
  have seated : openShift o s = recomputeSign ((openView o.lag t).setStu
      { (openView o.lag t).stu with floor := o.floor, ceiling := o.ceiling }) := by subst hb; rfl
  obtain ⟨hlag, -, -, hconsole⟩ := t.vbu.put_roles t.vbu.console none
  obtain ⟨hvbu, -, hstale, -⟩ := reloadLag_spec (t.setVbu { t.vbu.put t.vbu.console none with lagLimit := o.lag })
  have view : (openView o.lag t).vbu =
      { t.vbu.put t.vbu.console none with lagLimit := o.lag, lagCount := o.lag } := hvbu
  rw [seated]
  refine ⟨?sau, ?fen, congrArg Vbu.lagLimit view, congrArg Vbu.lagCount view, ?console, fun hz => hstale ?count, ?stu, rfl⟩
  case sau => exact (reloadLag_sau _).trans (hb ▸ rfl)
  case fen => exact (reloadLag_fen _).trans (hb ▸ rfl)
  case console =>
    show (openView o.lag t).vbu.get (openView o.lag t).vbu.console = none
    rw [view]
    exact (congrArg _ hconsole).trans (Vbu.get_put_same ..)
  case count => exact hlag.trans (hb ▸ hz)
  case stu =>
    have kept : (openView o.lag t).stu = s.stu := (reloadLag_stu _).trans (hb ▸ rfl)
    show { (openView o.lag t).stu with floor := o.floor, ceiling := o.ceiling } = _
    rw [kept]

theorem openShift_frame (o : Opening) (s : State) : (openShift o s).miu = s.miu ∧ (openShift o s).tfs = s.tfs ∧
    (openShift o s).tlc = s.tlc ∧ (openShift o s).transit = s.transit ∧ (openShift o s).piu = s.piu ∧
    outsideKept s (openShift o s) := by
  simp [openShift, openView, outsideKept]

/-- Settles O38. -/
theorem shiftsOpen : Obligations.ShiftsOpen := by
  unfold Obligations.ShiftsOpen
  refine ⟨fun s d n sh l f c hl h => request_of_refuse hl (serveShiftOpen_badFields h),
    fun s d n sh l f c b hl hd hd' hn hn' hsh hlag hlag' hf hc => ?_⟩
  obtain ⟨refuses, opens⟩ := serveShiftOpen_fields (s := s) ⟨hd, hd'⟩ ⟨hn, hn'⟩ hsh ⟨hlag, hlag'⟩ hf hc
  refine ⟨fun hs => request_of_refuse hl (refuses _ (openRefusal_running hs)), fun hs hbad => ?notReady,
    fun hs ht hk hcal => ⟨fun hseal => ?sealed, fun hseal h0 h1 => ?full, fun hseal hfree => ?opens⟩⟩
  case notReady =>
    refine request_of_refuse hl (refuses _ ?_)
    rw [openRefusal_closed hs]
    rcases hbad with hbad | hbad | hbad <;> simp [hbad]
  case sealed => exact request_of_refuse hl (refuses _ ((openRefusal_ready hs ht hk hcal).trans (if_pos hseal)))
  case full =>
    refine request_of_refuse hl (refuses _ ((openRefusal_ready hs ht hk hcal).trans ?_))
    rw [if_neg (hseal ▸ Bool.false_ne_true), if_pos ⟨h0, h1⟩]
  case opens =>
    have passes : openRefusal s = none := by
      rw [openRefusal_ready hs ht hk hcal, if_neg (hseal ▸ Bool.false_ne_true),
        if_neg fun ⟨h0, h1⟩ => hfree.elim h0 h1]
    obtain ⟨hsau, hfen, hlimit, hcount, hconsole, hstale, hstu, himage⟩ := openShift_spec ⟨d, n, b, l, f, c⟩ s
    obtain ⟨hmiu, htfs, htlc, htransit, hpiu, hout⟩ := openShift_frame ⟨d, n, b, l, f, c⟩ s
    refine ⟨_, request_of_served hl (opens passes), ?answer, congrArg Sau.shift hsau, congrArg Sau.number hsau, ?live,
      congrArg Sau.slot0 hsau, (congrArg Sau.slot1 hsau).trans ?slot1, hfen, hlimit, hcount, hconsole, hstale, hstu, himage, hmiu,
      htfs, htlc, htransit, hpiu, hout⟩
    case answer => rw [answered_clc, answered_sau, hsau]; rfl
    case live => rw [answered_sau, hsau]; rfl
    case slot1 =>
      by_cases h0 : s.sau.slot0 = .free
      · rw [if_pos h0]
        exact if_neg fun h => h.1 h0
      · rw [if_neg h0]
        exact if_pos ⟨h0, hfree.resolve_left h0⟩

/-! ### Summaries and totals (R125 to R127) -/

section
variable {s : State} {n : Nat}

theorem chosenSlot_index (h : n ≤ 1) : chosenSlot s n = some n := by
  rcases Nat.le_one_iff_eq_zero_or_eq_one.1 h with rfl | rfl <;> rfl

theorem chosenSlot_bad (h : 1 < n) (h' : n ≠ 0xFF) : chosenSlot s n = none := by
  unfold chosenSlot
  split
  · omega
  · omega
  · exact absurd rfl h'
  · rfl

theorem summaryFetch_congr {m : Nat} (hl : listening s = true) (h : chosenSlot s n = chosenSlot s m) :
    exec (.summaryFetch n) s = exec (.summaryFetch m) s := by
  have same : serveSummaryFetch n s = serveSummaryFetch m s := by simp only [serveSummaryFetch, h]
  show request 0x4C (serveSummaryFetch n) s = request 0x4C (serveSummaryFetch m) s
  rw [request_listening hl, request_listening hl, same]

theorem serveSummaryFetch_held {x : Summary} {g : Bool} {order : Nat} (hn : n ≤ 1) (h : summarySlot s n = .held x g order) :
    serveSummaryFetch n s = served (be 1 n ++ x.toBytes) (s.setSummarySlot n (.held x true order)) := by
  simp only [serveSummaryFetch, chosenSlot_index hn, h]

theorem serveSummaryFetch_empty (hn : n ≤ 1) (h : summarySlot s n = .free ∨ summarySlot s n = .reserved) :
    serveSummaryFetch n s = refuse .notFound s := by
  rcases h with h | h <;> simp only [serveSummaryFetch, chosenSlot_index hn, h]

theorem serveSummaryRelease_fetched {x : Summary} {order : Nat} (hn : n ≤ 1) (h : summarySlot s n = .held x true order) :
    serveSummaryRelease n s = served [] ((s.setSummarySlot n .free).setSummarySlot (1 - n)
      ((summarySlot (s.setSummarySlot n .free) (1 - n)).withOrder 0)) := by
  rw [serveSummaryRelease, if_neg (Nat.not_lt.2 hn)]
  simp only [h]

theorem serveSummaryRelease_refused (hn : n ≤ 1)
    (h : summarySlot s n = .free ∨ summarySlot s n = .reserved ∨ ∃ x order, summarySlot s n = .held x false order) :
    serveSummaryRelease n s = refuse .notAllowed s := by
  rw [serveSummaryRelease, if_neg (Nat.not_lt.2 hn)]
  rcases h with h | h | ⟨x, order, h⟩ <;> simp only [h]

/-- A release frees its slot and leaves the other as the only one, its order mark 0 (R126; log entry 15). -/
theorem release_slots (hn : n ≤ 1) :
    summarySlot ((s.setSummarySlot n .free).setSummarySlot (1 - n)
      ((summarySlot (s.setSummarySlot n .free) (1 - n)).withOrder 0)) n = .free ∧
    summarySlot ((s.setSummarySlot n .free).setSummarySlot (1 - n)
      ((summarySlot (s.setSummarySlot n .free) (1 - n)).withOrder 0)) (1 - n) = (summarySlot s (1 - n)).withOrder 0 := by
  rcases Nat.le_one_iff_eq_zero_or_eq_one.1 hn with rfl | rfl <;> exact ⟨rfl, rfl⟩

theorem setSummarySlot_frame (x : SummarySlot) : (s.setSummarySlot n x).sau.live = s.sau.live ∧
    (s.setSummarySlot n x).sau.shift = s.sau.shift ∧ (s.setSummarySlot n x).fen = s.fen ∧
    (s.setSummarySlot n x).miu = s.miu ∧ outsideKept s (s.setSummarySlot n x) := by
  unfold State.setSummarySlot
  split <;> exact ⟨rfl, rfl, rfl, rfl, rfl, rfl, rfl⟩

end

/-- Settles O40. -/
theorem summariesAreFetchedAndReleased : Obligations.SummariesAreFetchedAndReleased := by
  unfold Obligations.SummariesAreFetchedAndReleased
  intro s hl
  refine ⟨fun n x fetched order hn h => ⟨request_of_served hl (serveSummaryFetch_held hn h), fun hf => ?unfetched,
      fun hf => ?released⟩, fun n hn h => ⟨request_of_refuse hl (serveSummaryFetch_empty hn h), ?notHeld⟩,
    fun n hn hn' => ?badSelector, fun n hn => request_of_refuse hl (if_pos hn), fun x f m h0 h1 => ?onlyFirst, fun h0 => ?onlySecond,
    fun x f m y g n h0 h1 => ?both, fun hs => request_of_served hl (if_pos (shiftRuns_eq_true_iff.2 hs)), fun hs => ?closed⟩
  case unfetched =>
    subst hf
    exact request_of_refuse hl (serveSummaryRelease_refused hn (.inr (.inr ⟨x, order, h⟩)))
  case released =>
    subst hf
    obtain ⟨hfreed, hother⟩ := release_slots (s := s) hn
    obtain ⟨hlive, hshift, hfen, hmiu, hcku, hrbc, hsmr⟩ := setSummarySlot_frame (s := s) (n := n) .free
    obtain ⟨hlive', hshift', hfen', hmiu', hcku', hrbc', hsmr'⟩ := setSummarySlot_frame (s := s.setSummarySlot n .free) (n := 1 - n)
      ((summarySlot (s.setSummarySlot n .free) (1 - n)).withOrder 0)
    exact ⟨_, request_of_served hl (serveSummaryRelease_fetched hn h), rfl, hfreed, fun y g m hy => hother.trans (hy ▸ rfl),
      fun hy => hother.trans (by rw [hy]; rfl), hlive'.trans hlive, hshift'.trans hshift, hfen'.trans hfen, hmiu'.trans hmiu,
      hcku'.trans hcku, hrbc'.trans hrbc, hsmr'.trans hsmr⟩
  case notHeld => exact request_of_refuse hl (serveSummaryRelease_refused hn (h.imp_right .inl))
  case badSelector => exact request_of_refuse hl (by simp only [serveSummaryFetch, chosenSlot_bad hn hn'])
  case onlyFirst => exact summaryFetch_congr hl (by rcases h1 with h1 | h1 <;> simp only [chosenSlot, h0, h1])
  case onlySecond => exact summaryFetch_congr hl (by rcases h0 with h0 | h0 <;> simp only [chosenSlot, h0])
  case both =>
    refine summaryFetch_congr hl ?_
    rw [chosenSlot_index (n := if m ≤ n then 0 else 1) (by split <;> decide)]
    simp only [chosenSlot, h0, h1]
  case closed => exact request_of_refuse hl (if_neg (by rw [shiftRuns_eq_false_iff.2 hs]; exact Bool.false_ne_true))

end Sys2Proof.Machine

/-! ## Roof sign requests (R131, R134, R136, R138, R147, R148, R151 to R153) -/

namespace Sys2Proof.Machine

/-! ### Lamp transfers (R148) -/

theorem busTransfer_allOn : busTransfer 0 0x02 [] = [0, 2, 0, 0xFE] := by decide

theorem busTransfer_normal : busTransfer 0 0x03 [] = [0, 3, 0, 0xFD] := by decide

section
variable {s : State}

theorem beginLamp_ready (hc : s.rbc.controller = .lampTest) (hf : s.rbc.flight = none) (hb : s.rbc.busBusy = false)
    (hr : s.rbc.recovering = false) (hl : s.rbc.lampRetry = none) :
    (s.rbc.phase = some .allOn → beginLamp s = s.setRbc { s.rbc with
      flight := some .lampAllOn, sending := [0, 2, 0, 0xFE], busBusy := true, arbWait := false }) ∧
    (s.rbc.phase = some .restore → beginLamp s = s.setRbc { s.rbc with
      flight := some .lampNormal, sending := [0, 3, 0, 0xFD], busBusy := true, arbWait := false }) := by
  rw [beginLamp, if_pos ⟨hc, hf, hb, hr, hl⟩]
  refine ⟨fun hp => ?_, fun hp => ?_⟩
  · simp only [hp, startTransfer, busTransfer_allOn]
  · simp only [hp, startTransfer, busTransfer_normal]

theorem beginLamp_otherwise (h : s.rbc.controller ≠ .lampTest ∨ s.rbc.flight ≠ none ∨ s.rbc.busBusy = true
    ∨ s.rbc.recovering = true ∨ s.rbc.lampRetry ≠ none) : beginLamp s = s := by
  refine if_neg ?_
  rintro ⟨hc, hf, hb, hr, hl⟩
  rcases h with h | h | h | h | h
  · exact h hc
  · exact h hf
  · exact nomatch hb.symm.trans h
  · exact nomatch hr.symm.trans h
  · exact h hl

/-- A lamp transfer that begins, or not, changes the controller's bus fields only. -/
theorem beginLamp_eq (s : State) : beginLamp s = s.setRbc (beginLamp s).rbc := by
  unfold beginLamp
  split
  · split <;> rfl
  · rfl

theorem beginLamp_kept (s : State) : (beginLamp s).rbc.controller = s.rbc.controller ∧
    (beginLamp s).rbc.phase = s.rbc.phase ∧ (beginLamp s).rbc.lampCut = s.rbc.lampCut ∧
    (beginLamp s).rbc.lampTries = s.rbc.lampTries := by
  unfold beginLamp
  split
  · split <;> exact ⟨rfl, rfl, rfl, rfl⟩
  · exact ⟨rfl, rfl, rfl, rfl⟩

end

/-! ### The role table (R131, R203) -/

theorem addressOf_bad {n : Nat} (h : n = 0 ∨ 63 < n ∧ n ≠ 0xFF) : addressOf n = none := by
  rw [addressOf, if_neg (by omega), if_neg (by rw [within_eq_true_iff]; omega)]

section
variable {s : State} {a b c d : Nat}

theorem serveSignConfig_bad (hc : s.rbc.controller = .held) (h : ∃ n ∈ [a, b, c, d], n = 0 ∨ 63 < n ∧ n ≠ 0xFF) :
    serveSignConfig a b c d s = refuse .badField s := by
  obtain ⟨n, hn, hbad⟩ := h
  have none := addressOf_bad hbad
  rw [serveSignConfig, if_neg (not_not.2 hc)]
  split
  · next ha hb hc hd =>
    simp only [List.mem_cons, List.not_mem_nil, or_false] at hn
    rcases hn with rfl | rfl | rfl | rfl
    · exact nomatch none.symm.trans ha
    · exact nomatch none.symm.trans hb
    · exact nomatch none.symm.trans hc
    · exact nomatch none.symm.trans hd
  · rfl

theorem serveSignConfig_held {a' b' c' d' : Option Nat} (hc : s.rbc.controller = .held) (ha : addressOf a = some a')
    (hb : addressOf b = some b') (hcc : addressOf c = some c') (hd : addressOf d = some d') : serveSignConfig a b c d s =
      if addressesDistinct [a', b', c', d'] then
        served [] ((s.setSgu { s.sgu with roles := ⟨a', b', c', d'⟩ }).setRbc
          { s.rbc with modules := unknownModules ⟨a', b', c', d'⟩, acked := unknownContents, probe := noProbes })
      else refuse .badField s := by
  rw [serveSignConfig, if_neg (not_not.2 hc)]
  simp only [ha, hb, hcc, hd]

end

/-! ### Text, alert, hold, release and lamp test -/

theorem request_of_begun {kind : Byte} {f : State → Served} {s t : State} (hl : listening s = true) (hf : f s = begun t) :
    request kind f s = .next (answered kind .accepted [] t) := by
  rw [request_listening hl, hf, begun_status, begun_payload, begun_state]

theorem serveSignText_bad {text : List Byte} {s : State} (h : 24 < text.length ∨ ∃ x ∈ text, x.toNat < 0x20 ∨ 0x7E < x.toNat) :
    serveSignText text s = refuse .badField s := by
  refine if_pos (h.imp_right ?_)
  rintro ⟨x, hx, hbad⟩ hall
  have p := within_eq_true_iff.1 (List.all_eq_true.1 hall x hx)
  omega

theorem serveSignText_good {text : List Byte} {s : State} (hn : text.length ≤ 24) (ht : text.all printable = true) :
    serveSignText text s = served [] (recomputeSign (s.setSgu { s.sgu with text := text })) :=
  if_neg fun h => h.elim (Nat.not_lt.2 hn) fun h => h ht

/-- The modules of a role table just configured or held (R131, R151). -/
theorem unknownModules_get (roles : Roles (Option Nat)) (r : Role) :
    (unknownModules roles).get r = (roles.get r).map fun _ => .unknown := Roles.get_map ..

/-- The update list of a full refresh that finds none (R138). -/
theorem fullRefresh_entries {s : State} (hl : s.sgu.list = []) :
    (fullRefresh s).sgu.list.map (fun e => (e.role, e.content, e.tries)) =
      ([Role.alert, .availability, .seats, .text].filter fun r => (s.sgu.roles.get r).isSome).map
        (fun r => (r, s.sgu.desired.get r, 0)) := by
  simp only [fullRefresh, List.foldl, hl]
  cases h1 : (s.sgu.roles.get .alert).isSome <;> cases h2 : (s.sgu.roles.get .availability).isSome <;>
    cases h3 : (s.sgu.roles.get .seats).isSome <;> cases h4 : (s.sgu.roles.get .text).isSome <;>
    simp [enqueue, h1, h2, h3, h4]

/-- Settles O41. -/
theorem signRequestsAreServed : Obligations.SignRequestsAreServed := by
  unfold Obligations.SignRequestsAreServed
  intro s hl
  refine ⟨fun a b c d a' b' c' d' hc ha hb hcc hd => ⟨fun hdistinct => ?config, fun hdouble => ?double⟩, fun a b c d hc => ?notHeld,
    fun a b c d hc hbad => request_of_refuse hl (serveSignConfig_bad hc hbad),
    fun text hbad => request_of_refuse hl (serveSignText_bad hbad), fun text hn ht => ?text,
    fun ha => request_of_refuse hl (if_pos ha), fun ha hlatch => ?noAlert, fun ha hlatch => ?clears, fun hc hd => ?holding,
    fun hc hd => ?held, fun hc hp => ?pending, fun hc => ?noHold, fun hc hlist => ?release,
    fun hc => request_of_refuse hl (if_neg hc), fun hc => ?lampTest, fun hc => ?lampBusy, fun hc => ?noLamp,
    request_of_served hl rfl⟩
  case config =>
    exact request_of_served hl ((serveSignConfig_held hc ha hb hcc hd).trans (if_pos hdistinct))
  case double =>
    exact request_of_refuse hl ((serveSignConfig_held hc ha hb hcc hd).trans (if_neg (by rw [hdouble]; exact Bool.false_ne_true)))
  case notHeld => exact request_of_refuse hl (if_pos hc)
  case text =>
    exact ⟨_, request_of_served hl (serveSignText_good hn ht), rfl, rfl, rfl, fun hne => congrArg Content.text (if_pos hne), rfl,
      rfl, rfl⟩
  case noAlert =>
    refine request_of_served hl ?_
    rw [serveAlertClear, if_neg (ha ▸ Bool.false_ne_true), if_neg (hlatch ▸ Bool.false_ne_true)]
  case clears =>
    have serves : serveAlertClear s =
        served [] (recomputeSign (condEnd .alert (s.setSgu { s.sgu with latch := false }))) := by
      rw [serveAlertClear, if_neg (ha ▸ Bool.false_ne_true), if_pos hlatch]
    exact ⟨_, request_of_served hl serves, rfl, rfl, rfl, rfl, rfl, rfl, rfl⟩
  case holding =>
    refine request_of_begun hl ?_
    simp only [serveSignHold, hc]
    exact if_pos hd
  case held =>
    have serves : serveSignHold s = served [] (enterHeld s) := by
      simp only [serveSignHold, hc]
      exact if_neg (hd ▸ Bool.false_ne_true)
    exact ⟨_, request_of_served hl serves, rfl, rfl, rfl, rfl, rfl, rfl, unknownModules_get _⟩
  case pending =>
    refine request_of_begun hl ?_
    simp only [serveSignHold, hc]
    exact if_neg (hp ▸ Bool.false_ne_true)
  case noHold =>
    refine request_of_refuse hl ?_
    rcases hc with hc | hc | ⟨hc, hp⟩ <;> simp only [serveSignHold, hc]
    exact if_pos hp
  case release =>
    exact ⟨_, request_of_served hl (if_pos hc), rfl, rfl, fullRefresh_entries (by exact hlist), rfl, rfl, rfl⟩
  case lampTest =>
    generalize hb : s.setRbc
      { s.rbc with
        controller := .lampTest, holdPending := false, phase := some .allOn, lampTries := 0, lampRetry := none
        litLeft := 0, lampCut := false } = b
    have serves : serveLampTest s = begun (beginLamp b) := by
      simp only [serveLampTest, hc, hb]
    obtain ⟨hcontroller, hphase, -, htries⟩ := beginLamp_kept b
    refine ⟨_, request_of_begun hl serves, rfl, hcontroller.trans (hb ▸ rfl), hphase.trans (hb ▸ rfl), htries.trans (hb ▸ rfl),
      ?sgu, fun hf hbus hrec => ?begins, fun hwaits => ?waits⟩
    case sgu =>
      rw [beginLamp_eq, ← hb]
      rfl
    case begins =>
      rw [(beginLamp_ready (s := b) (hb ▸ rfl) (hb ▸ hf) (hb ▸ hbus) (hb ▸ hrec) (hb ▸ rfl)).1 (hb ▸ rfl)]
      exact ⟨rfl, rfl⟩
    case waits =>
      rw [beginLamp_otherwise (.inr (hwaits.imp (hb ▸ id) fun h => .inl (hb ▸ h))), ← hb]
      exact ⟨rfl, rfl⟩
  case lampBusy =>
    refine request_of_refuse hl ?_
    simp only [serveLampTest, hc]
  case noLamp =>
    refine request_of_refuse hl ?_
    rcases hc with hc | hc <;> simp only [serveLampTest, hc]

end Sys2Proof.Machine

/-! ## The alarm and the bus (R135, R136, R139, R145 to R147, R150, R154) -/

namespace Sys2Proof.Machine

/-! ### A lamp test cut or restored (R148, R150) -/

section
variable {s : State}

theorem lampRestore_starts (hc : s.rbc.controller = .lampTest) (hf : s.rbc.flight = none) (hb : s.rbc.busBusy = false)
    (hr : s.rbc.recovering = false) : lampRestore s = s.setRbc { s.rbc with
      phase := some .restore, lampTries := 0, lampRetry := none, litLeft := 0, flight := some .lampNormal
      sending := [0, 3, 0, 0xFD], busBusy := true, arbWait := false } :=
  (beginLamp_ready (s := s.setRbc { s.rbc with phase := some .restore, lampTries := 0, lampRetry := none, litLeft := 0 })
    hc hf hb hr rfl).2 rfl

theorem lampRestore_waits (h : s.rbc.flight ≠ none ∨ s.rbc.busBusy = true ∨ s.rbc.recovering = true) :
    lampRestore s = s.setRbc { s.rbc with phase := some .restore, lampTries := 0, lampRetry := none, litLeft := 0 } :=
  beginLamp_otherwise (.inr (h.imp_right (Or.imp_right .inl)))

theorem lampRestore_eq (s : State) : lampRestore s = s.setRbc (lampRestore s).rbc := beginLamp_eq _

theorem lampRestore_kept (s : State) : (lampRestore s).rbc.phase = some .restore ∧
    (lampRestore s).rbc.lampCut = s.rbc.lampCut := by
  obtain ⟨-, hphase, hcut, -⟩ := beginLamp_kept
    (s.setRbc { s.rbc with phase := some .restore, lampTries := 0, lampRetry := none, litLeft := 0 })
  exact ⟨hphase, hcut⟩

theorem cutLampTest_otherwise (h : s.rbc.controller ≠ .lampTest ∨ s.rbc.phase = some .restore) : cutLampTest s = s := by
  unfold cutLampTest
  split
  · next hc =>
    have hp := h.resolve_left (not_not.2 hc)
    simp only [hp]
  · rfl

theorem cutLampTest_lit (hc : s.rbc.controller = .lampTest) (hp : s.rbc.phase = some .lit) :
    cutLampTest s = lampRestore (s.setRbc { s.rbc with lampCut := true }) := by
  rw [cutLampTest, if_pos hc]
  simp only [hp]

theorem cutLampTest_allOn (hc : s.rbc.controller = .lampTest) (hp : s.rbc.phase = some .allOn) : cutLampTest s =
    if s.rbc.flight = none then lampRestore (s.setRbc { s.rbc with lampCut := true })
    else s.setRbc { s.rbc with lampCut := true } := by
  rw [cutLampTest, if_pos hc]
  simp only [hp]

/-- A cut with no transfer in flight restores the lamps (R150). -/
theorem cutLampTest_idle (hc : s.rbc.controller = .lampTest) (hf : s.rbc.flight = none)
    (hp : s.rbc.phase = some .allOn ∨ s.rbc.phase = some .lit) :
    cutLampTest s = lampRestore (s.setRbc { s.rbc with lampCut := true }) :=
  hp.elim (fun hp => (cutLampTest_allOn hc hp).trans (if_pos hf)) (cutLampTest_lit hc)

theorem cutLampTest_eq (s : State) : cutLampTest s = s.setRbc (cutLampTest s).rbc := by
  unfold cutLampTest
  split
  · split
    · dsimp only
      split
      · rw [lampRestore_eq]; rfl
      · rfl
    · rw [lampRestore_eq]; rfl
    · rfl
  · rfl

end

/-! ### ALRM (R135, R136, R154) -/

theorem alarmActivation_takes (a : AlarmInput) (s : State) :
    exec (.alarmActivation a) s = .next (if powered s then takeAlarm a s else followAlarm a s) := rfl

theorem alarmLow_eq (a : AlarmInput) : alarmLow a = decide (a ≠ .inactive) := by cases a <;> rfl

/-- The state in which an alarm taken cuts a lamp test: the latch risen and ALERT begun (R135). -/
def latched (s : State) : State :=
  recomputeSign (condBegin .alert ((s.setRbc { s.rbc with alrmActive := true }).setSgu { s.sgu with latch := true }))

theorem takeAlarm_held {s : State} (h : s.sgu.latch = false) : takeAlarm .heldActive s = cutLampTest (latched s) :=
  if_neg (h ▸ Bool.false_ne_true)

theorem takeAlarm_latched {s : State} (h : s.sgu.latch = true) :
    takeAlarm .heldActive s = s.setRbc { s.rbc with alrmActive := true } := if_pos h

/-! ### The bus (R139) -/

theorem freeBus_driving {s : State} (c : BusFreeCause) (h : driving s.rbc = true) : freeBus c s = s := if_pos h

theorem freeBus_linesHigh {s : State} (h : driving s.rbc = false) : freeBus .linesHigh s =
    beginLamp (s.setRbc { s.rbc with busBusy := false, idleOnly := false, recovering := false }) :=
  if_neg (h ▸ Bool.false_ne_true)

theorem freeBus_stopSeen {s : State} (h : driving s.rbc = false) : freeBus .stopSeen s =
    if s.rbc.idleOnly ∨ s.rbc.recovering then s else beginLamp (s.setRbc { s.rbc with busBusy := false }) :=
  if_neg (h ▸ Bool.false_ne_true)

/-- Settles O42. -/
theorem alarmAndBusEvents : Obligations.AlarmAndBusEvents := by
  unfold Obligations.AlarmAndBusEvents
  refine ⟨fun s a hp => ?unpowered, fun s hp => ⟨?high, ?low, fun hlatch => ?again, fun hlatch => ?rises, ?foreign,
    fun c hd => ?driving, fun hd hc => ⟨?linesHigh, fun hi hr => ?stopSeen, fun hbusy => ?notFreed⟩,
    fun hd hc hf hretry hphase => ?lamp⟩⟩
  case unpowered =>
    rw [alarmActivation_takes, if_neg (hp ▸ Bool.false_ne_true), followAlarm, alarmLow_eq]
  case high => rw [alarmActivation_takes, if_pos hp]; rfl
  case low => rw [alarmActivation_takes, if_pos hp]; rfl
  case again => rw [alarmActivation_takes, if_pos hp, takeAlarm_latched hlatch]
  case foreign => exact exec_event (c := .foreignStart) rfl hp
  case driving => rw [exec_event (c := .busFree c) rfl hp, freeBus_driving c hd]
  case linesHigh => rw [exec_event (c := .busFree .linesHigh) rfl hp, freeBus_linesHigh hd, beginLamp_otherwise (.inl (by exact hc))]
  case stopSeen =>
    rw [exec_event (c := .busFree .stopSeen) rfl hp, freeBus_stopSeen hd, if_neg (by simp [hi, hr]),
      beginLamp_otherwise (.inl (by exact hc))]
  case notFreed => rw [exec_event (c := .busFree .stopSeen) rfl hp, freeBus_stopSeen hd, if_pos hbusy]
  case lamp =>
    have begins := (beginLamp_ready (s := s.setRbc { s.rbc with busBusy := false, idleOnly := false, recovering := false })
      hc hf rfl rfl hretry).1 hphase
    refine ⟨_, (exec_event (c := .busFree .linesHigh) rfl hp).trans (congrArg _ ((freeBus_linesHigh hd).trans begins)), rfl, rfl, rfl,
      rfl, rfl⟩
  case rises =>
    have taken : exec (.alarmActivation .heldActive) s = .next (cutLampTest (latched s)) := by
      rw [alarmActivation_takes, if_pos hp, takeAlarm_held hlatch]
    have frame := cutLampTest_eq (latched s)
    have hsgu := congrArg State.sgu frame
    have hclc := congrArg State.clc frame
    generalize hu : latched s = u at taken frame hsgu hclc
    have hrbc : u.rbc = { s.rbc with alrmActive := true } := hu ▸ rfl
    have controller : u.rbc.controller = s.rbc.controller := (congrArg Rbc.controller hrbc).trans rfl
    have phase : u.rbc.phase = s.rbc.phase := (congrArg Rbc.phase hrbc).trans rfl
    have flight : u.rbc.flight = s.rbc.flight := (congrArg Rbc.flight hrbc).trans rfl
    refine ⟨_, taken, ?latch, ?alert, ?holds, fun hon => ?raised, fun hc => ?noTest, fun hc hph => ?lit, fun hc hph => ?restore,
      fun hc hph hf => ?flying, fun hc hf hph => ?idle, (congrArg State.fen frame).trans (hu ▸ rfl),
      (congrArg State.sau frame).trans (hu ▸ rfl), (congrArg State.miu frame).trans (hu ▸ rfl),
      (congrArg State.cku frame).trans (hu ▸ rfl)⟩
    case latch => exact (congrArg Sgu.latch hsgu).trans (hu ▸ rfl)
    case alert => exact (congrArg (fun g : Sgu => g.desired.alert) hsgu).trans (hu ▸ rfl)
    case holds => exact (congrArg (fun c : Clc => c.notices.alert.holds) hclc).trans (hu ▸ rfl)
    case raised =>
      exact (congrArg (fun c : Clc => c.notices.alert.raised) hclc).trans (hu ▸ Bool.or_eq_true_iff.2 (.inr hon))
    case noTest => rw [cutLampTest_otherwise (.inl (controller ▸ hc)), hrbc]
    case restore => rw [cutLampTest_otherwise (.inr (phase.trans hph)), hrbc]
    case lit =>
      rw [cutLampTest_lit (controller.trans hc) (phase.trans hph)]
      exact lampRestore_kept _
    case flying =>
      rw [cutLampTest_allOn (controller.trans hc) (phase.trans hph), if_neg (flight ▸ hf), hrbc]
      rfl
    case idle =>
      rw [cutLampTest_idle (controller.trans hc) (flight.trans hf) (phase ▸ hph), hrbc]
      refine ⟨fun hbus hrec => ?_, fun hwaits => ?_⟩
      · rw [lampRestore_starts (by exact hc) (by exact hf) (by exact hbus) (by exact hrec)]
        rfl
      · rw [lampRestore_waits (by exact .inr hwaits)]
        rfl

end Sys2Proof.Machine

/-! ## Content transfers (R139 to R144, R148, R150, R151) -/

namespace Sys2Proof.Machine

/-! ### The update list -/

/-- A change of the entries that leaves their roles. -/
theorem entryOf_map {f : UpdateEntry → UpdateEntry} (hf : ∀ e, (f e).role = e.role) (l : List UpdateEntry) (r : Role) :
    entryOf (l.map f) r = (entryOf l r).map f := by
  have same : (fun e : UpdateEntry => e.role == r) ∘ f = fun e => e.role == r := funext fun e => by
    rw [Function.comp_apply, hf]
  rw [entryOf, List.find?_map, same]
  rfl

theorem entryOf_dropEntry_ne {q r : Role} (h : q ≠ r) (l : List UpdateEntry) :
    entryOf (dropEntry l r) q = entryOf l q := by
  refine find?_filter_of_imp (fun e he => ?_) l
  rw [beq_iff_eq.1 he]
  exact bne_iff_ne.2 h

theorem any_role {l : List UpdateEntry} {r : Role} : (l.any fun e => e.role == r) = (entryOf l r).isSome := by
  rw [entryOf, Bool.eq_iff_iff, List.find?_isSome, List.any_eq_true]

theorem entryOf_cons_same {x : UpdateEntry} {r : Role} (h : x.role = r) (l : List UpdateEntry) : entryOf (x :: l) r = some x :=
  List.find?_cons_of_pos (p := fun e : UpdateEntry => e.role == r) (beq_iff_eq.2 h)

theorem entryOf_cons_ne {x : UpdateEntry} {r : Role} (h : x.role ≠ r) (l : List UpdateEntry) :
    entryOf (x :: l) r = entryOf l r :=
  List.find?_cons_of_neg (p := fun e : UpdateEntry => e.role == r) (mt beq_iff_eq.1 h)

theorem entryOf_append (l m : List UpdateEntry) (r : Role) : entryOf (l ++ m) r = (entryOf l r).or (entryOf m r) :=
  List.find?_append

/-- A content enqueued for a role without an entry (R138). -/
theorem entryOf_enqueue_new {l : List UpdateEntry} {r : Role} (h : entryOf l r = none) (c : Content) (probe : Bool) :
    entryOf (enqueue r c probe l) r = some ⟨r, c, 0, probe, none, false⟩ := by
  have absent : (l.any fun e => e.role == r) = false := by rw [any_role, h]; rfl
  rw [enqueue, if_neg (absent ▸ Bool.false_ne_true)]
  by_cases hr : r = .alert
  · rw [if_pos hr]
    exact entryOf_cons_same rfl l
  · rw [if_neg hr, entryOf_append, h]
    exact entryOf_cons_same rfl []

/-- A content enqueued for a role with an entry: in place (R138). -/
theorem entryOf_enqueue_old {l : List UpdateEntry} {r : Role} {e : UpdateEntry} (h : entryOf l r = some e) (c : Content)
    (probe : Bool) : entryOf (enqueue r c probe l) r = some { e with content := c, tries := 0 } := by
  have present : (l.any fun e => e.role == r) = true := by rw [any_role, h]; rfl
  rw [enqueue, if_pos present, entryOf_map (fun x => by split <;> rfl), h, Option.map_some, if_pos (entryOf_role h)]

theorem entryOf_enqueue_ne {l : List UpdateEntry} {q r : Role} (h : q ≠ r) (c : Content) (probe : Bool) :
    entryOf (enqueue r c probe l) q = entryOf l q := by
  unfold enqueue
  split
  · rw [entryOf_map (fun x => by split <;> rfl)]
    cases hq : entryOf l q with
    | none => rfl
    | some x => rw [Option.map_some, if_neg fun e => h ((entryOf_role hq).symm.trans e)]
  · dsimp only
    split
    · exact entryOf_cons_ne (by exact h.symm) l
    · rw [entryOf_append, entryOf_cons_ne (by exact h.symm)]
      exact Option.or_none

/-! ### The bus once a transfer has ended -/

/-- The bus once a transfer of the RBC has ended by a means other than a loss, left BUSY or FREE (R139, R146). -/
def Rbc.ended (busy : Bool) (b : Rbc) : Rbc :=
  { b with flight := none, sending := [], arbWait := false, busBusy := busy, arbLoss := 0 }

theorem endLossRun_clearFlight (busy : Bool) (s : State) :
    endLossRun (clearFlight busy s) = s.setRbc (s.rbc.ended busy) := rfl

theorem driving_of {b : Rbc} {t : Transfer} (hf : b.flight = some t) (hw : b.arbWait = false) : driving b = true := by
  simp [driving, hf, hw]

section
variable {s : State} {r : Role} {c : Content} {e : UpdateEntry}

theorem transferSuccess_takes (hp : powered s = true) (hf : s.rbc.flight = some (.content r c)) (hw : s.rbc.arbWait = false) :
    exec .transferSuccess s = .next (succeedContent r c s) := by
  rw [exec_event (c := .transferSuccess) rfl hp]
  simp only [transferSuccess, hf, if_pos (driving_of hf hw)]

theorem transferFailed_takes {t : Transfer} (hp : powered s = true) (hf : s.rbc.flight = some t) (hw : s.rbc.arbWait = false) :
    exec .transferFailed s = .next (failTransfer false s) := by
  rw [exec_event (c := .transferFailed) rfl hp, transferFailed, if_pos (driving_of hf hw)]

theorem failTransfer_content (busy : Bool) (hf : s.rbc.flight = some (.content r c)) :
    failTransfer busy s = afterContent (failEntry r (s.setRbc (s.rbc.ended busy))) := by
  simp only [failTransfer, hf, endLossRun_clearFlight]

/-! ### A failed try (R142, R144) -/

theorem failEntry_probe (he : entryOf s.sgu.list r = some e) (hp : e.probe = true) : failEntry r s =
    (s.setSgu { s.sgu with list := dropEntry s.sgu.list r }).setRbc { s.rbc with probe := s.rbc.probe.set r (some 5000) } := by
  simp only [failEntry, he, hp, if_true]

theorem failEntry_retry (he : entryOf s.sgu.list r = some e) (hp : e.probe = false) (ht : e.tries + 1 < 3) : failEntry r s =
    s.setSgu { s.sgu with
      list := dropEntry s.sgu.list r ++ [{ e with tries := e.tries + 1, holdOff := some 50, inFlight := false }] } := by
  simp only [failEntry, he, hp, Bool.false_eq_true, if_false, if_pos ht]

theorem failEntry_faulty (he : entryOf s.sgu.list r = some e) (hp : e.probe = false) (ht : 2 ≤ e.tries) : failEntry r s =
    raise .moduleFault ((s.setSgu { s.sgu with list := dropEntry s.sgu.list r }).setRbc
      { s.rbc with
        modules := s.rbc.modules.set r (some .faulty), acked := s.rbc.acked.set r none
        probe := s.rbc.probe.set r (some 5000) }) := by
  simp only [failEntry, he, hp, Bool.false_eq_true, if_false, if_neg (show ¬ e.tries + 1 < 3 by omega)]

/-! ### A success (R141, R144) -/

/-- The update list after a content was acknowledged (R141). -/
def acknowledgedList (r : Role) (c : Content) (l : List UpdateEntry) : List UpdateEntry :=
  match entryOf l r with
  | none => l
  | some e =>
    if e.content = c then dropEntry l r
    else l.map fun x => if x.role = r then { x with tries := 0, probe := false, inFlight := false } else x

theorem acknowledgedList_same (he : entryOf s.sgu.list r = some e) (hc : e.content = c) :
    acknowledgedList r c s.sgu.list = dropEntry s.sgu.list r := by
  simp only [acknowledgedList, he, if_pos hc]

theorem acknowledgedList_changed (he : entryOf s.sgu.list r = some e) (hc : e.content ≠ c) :
    acknowledgedList r c s.sgu.list =
      s.sgu.list.map fun x => if x.role = r then { x with tries := 0, probe := false, inFlight := false } else x := by
  simp only [acknowledgedList, he, if_neg hc]

/-- The part once a content was acknowledged, before what follows the end of the transfer (R141, R144). -/
def acknowledged (r : Role) (c : Content) (s : State) : State :=
  ((if s.rbc.modules.get r = some .faulty then raise .moduleRecovered s else s).setRbc { s.rbc.ended false with
    acked := s.rbc.acked.set r (some c), modules := s.rbc.modules.set r (some .ok), probe := s.rbc.probe.set r none }).setSgu
      { s.sgu with list := acknowledgedList r c s.sgu.list }

theorem succeedContent_eq (r : Role) (c : Content) (s : State) : succeedContent r c s = afterContent (acknowledged r c s) := by
  unfold succeedContent acknowledged acknowledgedList
  dsimp only
  split
  · cases he : entryOf s.sgu.list r <;> rfl
  · cases he : entryOf s.sgu.list r <;> rfl

theorem acknowledged_sign (r : Role) (c : Content) (s : State) : (acknowledged r c s).clc.notices.sign =
    if s.rbc.modules.get r = some .faulty then s.clc.notices.sign.addReason 1 else s.clc.notices.sign := by
  unfold acknowledged
  split <;> rfl

theorem acknowledged_frame (r : Role) (c : Content) (s : State) : (acknowledged r c s).fen = s.fen ∧
    (acknowledged r c s).sau = s.sau ∧ (acknowledged r c s).cku = s.cku := by
  unfold acknowledged
  split <;> exact ⟨rfl, rfl, rfl⟩

/-! ### What follows a content transfer (R148, R150, R151) -/

theorem afterContent_holding (hc : s.rbc.controller = .holding) : afterContent s = enterHeld s := if_pos hc

theorem afterContent_running (hc : s.rbc.controller = .running) : afterContent s = s := by
  rw [afterContent, if_neg (by rw [hc]; decide), if_neg (by rw [hc]; decide)]

/-- The lamp transfer that follows a content transfer in ALL_ON: LAMP_NORMAL in a test that was cut (R148, R150). -/
def Rbc.lampNext (b : Rbc) : Rbc :=
  if b.lampCut then
    { b with
      flight := some .lampNormal, sending := [0, 3, 0, 0xFD], busBusy := true, arbWait := false, phase := some .restore
      lampTries := 0, lampRetry := none, litLeft := 0 }
  else { b with flight := some .lampAllOn, sending := [0, 2, 0, 0xFE], busBusy := true, arbWait := false }

theorem afterContent_lamp (hc : s.rbc.controller = .lampTest) (hp : s.rbc.phase = some .allOn) (hf : s.rbc.flight = none)
    (hb : s.rbc.busBusy = false) (hr : s.rbc.recovering = false) (hl : s.rbc.lampRetry = none) :
    afterContent s = s.setRbc s.rbc.lampNext := by
  rw [afterContent, if_neg (by rw [hc]; decide), if_pos hc, Rbc.lampNext]
  by_cases hcut : s.rbc.lampCut = true
  · rw [if_pos ⟨hp, hcut⟩, if_pos hcut, lampRestore_starts hc hf hb hr]
  · rw [if_neg fun h => hcut h.2, if_neg hcut, (beginLamp_ready hc hf hb hr hl).1 hp]

end

/-- The controller's entry into HELD, from a state that differs in the fields that HELD sets (R151). -/
theorem enterHeld_heldRbc {s t : State} (hroles : t.sgu.roles = s.sgu.roles) (hidle : t.rbc.idleOnly = s.rbc.idleOnly)
    (halrm : t.rbc.alrmActive = s.rbc.alrmActive) (hbusy : t.rbc.busBusy = false) : heldRbc s (enterHeld t) := by
  unfold heldRbc enterHeld
  simp only [State.setRbc_rbc, hroles, hidle, halrm, hbusy]
  rfl

/-- The bus fields of the lamp transfer that O43 states, where the test had no wait and no loss of its own. -/
theorem lampNext_ended {b : Rbc} (hw : b.arbWait = false) (hl : b.lampRetry = none) : (b.ended false).lampNext =
    if b.lampCut then
      { b with
        arbLoss := 0, flight := some .lampNormal, sending := [0, 3, 0, 0xFD], busBusy := true, phase := some .restore
        lampTries := 0, litLeft := 0 }
    else { b with arbLoss := 0, flight := some .lampAllOn, sending := [0, 2, 0, 0xFE], busBusy := true } := by
  obtain ⟨acked, modules, probe, controller, holdPending, phase, busBusy, idleOnly, arbLoss, flight, sending, arbWait,
    recovering, lampTries, lampRetry, litLeft, lampCut, alrmActive⟩ := b
  subst hw hl
  rfl

section
variable {s : State} {r : Role} {c : Content} {e : UpdateEntry}

/-- A content transfer that ends in HOLDING (R151). -/
theorem transfers_holding (hp : powered s = true) (hc : s.rbc.controller = .holding) (hf : s.rbc.flight = some (.content r c))
    (hw : s.rbc.arbWait = false) (he : entryOf s.sgu.list r = some e) :
    (∃ t, exec .transferSuccess s = .next t ∧ heldRbc s t ∧ t.sgu = { s.sgu with list := [] } ∧
      t.clc.notices.sign =
        (if s.rbc.modules.get r = some .faulty then s.clc.notices.sign.addReason 1 else s.clc.notices.sign)) ∧
    (∃ t, exec .transferFailed s = .next t ∧ heldRbc s t ∧ t.sgu = { s.sgu with list := [] } ∧
      t.clc.notices.sign =
        (if e.probe = false ∧ 2 ≤ e.tries then s.clc.notices.sign.addReason 0 else s.clc.notices.sign)) := by
  refine ⟨⟨_, transferSuccess_takes hp hf hw, ?_⟩, ⟨_, transferFailed_takes hp hf hw, ?_⟩⟩
  · rw [succeedContent_eq, afterContent_holding (by exact hc)]
    exact ⟨enterHeld_heldRbc rfl rfl rfl rfl, rfl, acknowledged_sign r c s⟩
  · rw [failTransfer_content false hf]
    have he' : entryOf (s.setRbc (s.rbc.ended false)).sgu.list r = some e := he
    cases hprobe : e.probe with
    | true =>
      rw [failEntry_probe he' hprobe, afterContent_holding (by exact hc)]
      exact ⟨enterHeld_heldRbc rfl rfl rfl rfl, rfl, by rw [if_neg (by simp)]; rfl⟩
    | false =>
      by_cases ht : 2 ≤ e.tries
      · rw [failEntry_faulty he' hprobe ht, afterContent_holding (by exact hc)]
        exact ⟨enterHeld_heldRbc rfl rfl rfl rfl, rfl, by rw [if_pos ⟨rfl, ht⟩]; rfl⟩
      · rw [failEntry_retry he' hprobe (by omega), afterContent_holding (by exact hc)]
        exact ⟨enterHeld_heldRbc rfl rfl rfl rfl, rfl, by rw [if_neg fun h => ht h.2]; rfl⟩

end

/-- Settles O43. -/
theorem contentTransfersSucceedAndFail : Obligations.ContentTransfersSucceedAndFail := by
  unfold Obligations.ContentTransfersSucceedAndFail
  refine ⟨fun s r c e hp hc hf hw he => transfers_holding hp hc hf hw he,
    fun s r c e lamp hp hc hph hf hw hrec he hretry hlamp => ?lampTest, fun s hp hc => ?running⟩
  case lampTest =>
    have he' : entryOf (s.setRbc (s.rbc.ended false)).sgu.list r = some e := he
    have failed := transferFailed_takes hp hf hw
    rw [failTransfer_content false hf] at failed
    have next (b : Rbc) (hcut : b.lampCut = s.rbc.lampCut) (hbw : b.arbWait = false) (hbl : b.lampRetry = none) :
        (b.ended false).lampNext = lamp b := by
      rw [lampNext_ended hbw hbl, hlamp, ← hcut]
    refine ⟨?succeeds, fun hprobe => ?probe, fun hprobe ht => ?retry, fun hprobe ht => ?faulty⟩
    case succeeds =>
      have succeeded := transferSuccess_takes hp hf hw
      rw [succeedContent_eq, afterContent_lamp (by exact hc) (by exact hph) rfl rfl (by exact hrec) (by exact hretry)] at succeeded
      refine ⟨_, succeeded, next { s.rbc with
        acked := s.rbc.acked.set r (some c), modules := s.rbc.modules.set r (some .ok), probe := s.rbc.probe.set r none }
        rfl hw hretry, acknowledged_sign r c s, fun hsame => ?_⟩
      show { s.sgu with list := acknowledgedList r c s.sgu.list } = _
      rw [acknowledgedList_same he hsame]
      rfl
    case probe =>
      rw [failEntry_probe he' hprobe, afterContent_lamp (by exact hc) (by exact hph) rfl rfl (by exact hrec) (by exact hretry)] at failed
      exact ⟨_, failed, next { s.rbc with probe := s.rbc.probe.set r (some 5000) } rfl hw hretry, rfl, rfl⟩
    case retry =>
      rw [failEntry_retry he' hprobe ht, afterContent_lamp (by exact hc) (by exact hph) rfl rfl (by exact hrec) (by exact hretry)] at failed
      exact ⟨_, failed, next s.rbc rfl hw hretry, rfl, rfl⟩
    case faulty =>
      rw [failEntry_faulty he' hprobe ht, afterContent_lamp (by exact hc) (by exact hph) rfl rfl (by exact hrec) (by exact hretry)] at failed
      exact ⟨_, failed, next { s.rbc with
        modules := s.rbc.modules.set r (some .faulty), acked := s.rbc.acked.set r none
        probe := s.rbc.probe.set r (some 5000) } rfl hw hretry, rfl, rfl⟩
  case running =>
    refine ⟨fun e hf hb hrec he => ?begins, fun he => ?nothing, fun r c e hf hw he => ⟨?succeeds', fun hprobe => ?probe',
      fun hprobe ht => ?retry', fun hprobe ht => ?faulty'⟩, fun n r hn => ?holdOff, fun n r hn hm hpr => ?probeTimer⟩
    case begins =>
      rw [exec_event (c := .transferBegin) rfl hp, beginTransfer, if_pos ⟨hc, hf, hb, hrec⟩]
      simp only [he]
      rfl
    case nothing =>
      rw [exec_event (c := .transferBegin) rfl hp, beginTransfer]
      split
      · simp only [he]
      · rfl
    case succeeds' =>
      have succeeded := transferSuccess_takes hp hf hw
      rw [succeedContent_eq, afterContent_running (by exact hc)] at succeeded
      obtain ⟨hfen, hsau, hcku⟩ := acknowledged_frame r c s
      refine ⟨_, succeeded, Roles.get_set_same .., Roles.get_set_same .., Roles.get_set_same .., rfl, rfl, rfl,
        acknowledged_sign r c s, fun hsame => acknowledgedList_same he hsame, fun hchanged => ?changed,
        fun q hq => ⟨Roles.get_set_ne _ _ hq, ?others⟩, hfen, hsau, hcku⟩
      case changed => 
        refine (congrArg (entryOf · r) (acknowledgedList_changed he hchanged)).trans ?_
        rw [entryOf_map (fun x => by split <;> rfl), he, Option.map_some, if_pos (entryOf_role he)]
      case others =>
        by_cases hsame : e.content = c
        · refine (congrArg (entryOf · q) (acknowledgedList_same he hsame)).trans ?_
          exact entryOf_dropEntry_ne hq _
        · refine (congrArg (entryOf · q) (acknowledgedList_changed he hsame)).trans ?_
          rw [entryOf_map (fun x => by split <;> rfl)]
          cases hother : entryOf s.sgu.list q with
          | none => rfl
          | some x => rw [Option.map_some, if_neg fun h => hq ((entryOf_role hother).symm.trans h)]
    case holdOff =>
      rw [exec_event (c := .holdOffExpiry n) rfl hp]
      simp only [hn]
    case probeTimer =>
      have taken : exec (.probeTimerExpiry n) s = .next (expireProbe r s) := by
        rw [exec_event (c := .probeTimerExpiry n) rfl hp]
        simp only [hn]
      refine ⟨_, taken, ?_⟩
      rw [expireProbe, if_pos ⟨.inl hc, hm, Option.isSome_iff_ne_none.2 hpr⟩, any_role]
      cases he : entryOf s.sgu.list r with
      | none => exact ⟨fun _ => entryOf_enqueue_new he _ _, fun hsome => absurd rfl hsome, rfl, rfl⟩
      | some e => exact ⟨nofun, fun _ => rfl, rfl, rfl⟩
    all_goals
      have he' : entryOf (s.setRbc (s.rbc.ended false)).sgu.list r = some e := he
      have failed := transferFailed_takes hp hf hw
      rw [failTransfer_content false hf] at failed
    case probe' =>
      rw [failEntry_probe he' hprobe, afterContent_running (by exact hc)] at failed
      exact ⟨_, failed, rfl, Roles.get_set_same .., rfl, rfl, rfl⟩
    case retry' =>
      rw [failEntry_retry he' hprobe ht, afterContent_running (by exact hc)] at failed
      exact ⟨_, failed, rfl, rfl, rfl, rfl, rfl⟩
    case faulty' =>
      have ahead : faultAhead s = true := by
        simp only [faultAhead, hf, driving_of hf hw, he]
        simp [hprobe, ht]
      have fault : exec .moduleFault s = exec .transferFailed s := by
        rw [exec_event (c := .moduleFault) rfl hp, exec_event (c := .transferFailed) rfl hp, if_pos ahead]
      rw [failEntry_faulty he' hprobe ht, afterContent_running (by exact hc)] at failed
      exact ⟨_, fault.trans failed, failed, rfl, Roles.get_set_same .., Roles.get_set_same .., Roles.get_set_same .., rfl, rfl⟩

end Sys2Proof.Machine

/-! ## Arbitration, stalls and the lamp test (R145 to R151) -/

namespace Sys2Proof.Machine

/-! ### Losses and stalls -/

section
variable {s : State}

theorem loseArbitration_goesOn (hd : driving s.rbc = true) (hc : s.rbc.controller ≠ .holding) : loseArbitration s =
    if satAdd 255 s.rbc.arbLoss 1 = 8 then
      raise .arbLimit (s.setRbc
        { s.rbc with arbLoss := satAdd 255 s.rbc.arbLoss 1, arbWait := true, busBusy := true })
    else s.setRbc { s.rbc with arbLoss := satAdd 255 s.rbc.arbLoss 1, arbWait := true, busBusy := true } := by
  rw [loseArbitration, if_pos hd]
  exact if_neg hc

theorem loseArbitration_holding (hd : driving s.rbc = true) (hc : s.rbc.controller = .holding) :
    ∃ t, loseArbitration s = enterHeld t := by
  rw [loseArbitration, if_pos hd]
  exact ⟨_, if_pos hc⟩

theorem arbitrationLost_takes (hp : powered s = true) : exec .arbitrationLost s = .next (loseArbitration s) :=
  exec_event (c := .arbitrationLost) rfl hp

theorem restartTransfer_waiting (hw : s.rbc.arbWait = true) (hb : s.rbc.busBusy = false) :
    (∀ r c e, s.rbc.flight = some (.content r c) → entryOf s.sgu.list r = some e →
      restartTransfer s = startTransfer (.content r e.content) (contentBytes s r e.content) s) ∧
    (s.rbc.flight = some .lampAllOn → restartTransfer s = startTransfer .lampAllOn (busTransfer 0 0x02 []) s) := by
  rw [restartTransfer, if_pos ⟨hw, hb⟩]
  refine ⟨fun r c e hf he => ?_, fun hf => ?_⟩
  · simp only [hf, he, Option.map_some, Option.getD_some]
  · simp only [hf]

end

/-- Settles O44. -/
theorem arbitrationAndStalls : Obligations.ArbitrationAndStalls := by
  unfold Obligations.ArbitrationAndStalls
  intro s hp
  refine ⟨fun hd hc => ?lost, fun hd hc => ?held, fun r c e hw hb hf he => ?content, fun hw hb hf => ?lamp,
    fun r c e hc hf hw he hprobe ht => ?stall, fun hr hc => ?recovery⟩
  case lost =>
    have count : satAdd 255 s.rbc.arbLoss 1 = 8 ↔ s.rbc.arbLoss = 7 := by unfold satAdd; omega
    refine ⟨_, arbitrationLost_takes hp, ?_⟩
    rw [loseArbitration_goesOn hd hc]
    by_cases h7 : s.rbc.arbLoss = 7
    · rw [if_pos (count.2 h7), if_pos h7]
      refine ⟨rfl, rfl, fun _ => ?_, rfl, rfl, rfl⟩
      rw [exec_event (c := .arbLimit) rfl hp, if_pos h7, loseArbitration_goesOn hd hc, if_pos (count.2 h7)]
    · rw [if_neg (mt count.1 h7), if_neg h7]
      exact ⟨rfl, rfl, fun h => absurd h h7, rfl, rfl, rfl⟩
  case held =>
    obtain ⟨t, ht⟩ := loseArbitration_holding hd hc
    exact ⟨_, (arbitrationLost_takes hp).trans (congrArg _ ht), rfl, rfl, rfl⟩
  case content =>
    exact (exec_event (c := .arbitrationRestart) rfl hp).trans (congrArg _ ((restartTransfer_waiting hw hb).1 r c e hf he))
  case lamp =>
    rw [exec_event (c := .arbitrationRestart) rfl hp, (restartTransfer_waiting hw hb).2 hf, startTransfer, busTransfer_allOn, ← hf]
  case stall =>
    have stalls : stallClock s = afterContent (failEntry r ((raise .stall (s.setRbc { s.rbc with recovering := true })).setRbc
        ({ s.rbc with recovering := true }.ended true))) :=
      (if_pos (driving_of hf hw)).trans (failTransfer_content true hf)
    have he' : entryOf ((raise .stall (s.setRbc { s.rbc with recovering := true })).setRbc
        ({ s.rbc with recovering := true }.ended true)).sgu.list r = some e := he
    rw [failEntry_retry he' hprobe ht, afterContent_running (by exact hc)] at stalls
    exact ⟨_, (exec_event (c := .clockStall) rfl hp).trans (congrArg _ stalls), rfl, rfl, rfl, rfl, rfl⟩
  case recovery =>
    rw [exec_event (c := .busRecovery) rfl hp, recoverBus, if_pos hr, beginLamp_otherwise (.inl (by exact hc))]

/-! ### The lamp test (R148 to R151) -/

section
variable {s : State}

theorem failTransfer_lamp {t : Transfer} (hf : s.rbc.flight = some t) (ht : t = .lampAllOn ∨ t = .lampNormal) :
    failTransfer false s = failLamp (s.setRbc (s.rbc.ended false)) := by
  rcases ht with rfl | rfl <;> simp only [failTransfer, hf, endLossRun_clearFlight]

theorem failLamp_again (h : s.rbc.lampTries + 1 < 3) (hcut : ¬ (s.rbc.phase = some .allOn ∧ s.rbc.lampCut = true)) :
    failLamp s = s.setRbc { s.rbc with lampTries := s.rbc.lampTries + 1, lampRetry := some 50 } := if_pos ⟨h, hcut⟩

theorem failLamp_last (h : 2 ≤ s.rbc.lampTries ∨ s.rbc.phase = some .allOn ∧ s.rbc.lampCut = true) :
    failLamp s = nextLampPhase s := by
  refine if_neg ?_
  rintro ⟨ht, hcut⟩
  exact h.elim (fun h => by omega) hcut

theorem nextLampPhase_allOn (hp : s.rbc.phase = some .allOn) : nextLampPhase s =
    if s.rbc.lampCut then lampRestore s
    else s.setRbc { s.rbc with phase := some .lit, lampTries := 0, lampRetry := none, litLeft := 3000 } := by
  simp only [nextLampPhase, hp]

theorem nextLampPhase_restore (hp : s.rbc.phase = some .restore) : nextLampPhase s = endLampTest s := by
  simp only [nextLampPhase, hp]

theorem lampTransferEnd_takes {t : Transfer} (hp : powered s = true) (hf : s.rbc.flight = some t)
    (ht : t = .lampAllOn ∨ t = .lampNormal) (hw : s.rbc.arbWait = false) :
    exec .lampTransferEnd s = .next (nextLampPhase (s.setRbc (s.rbc.ended false))) := by
  rw [exec_event (c := .lampTransferEnd) rfl hp]
  rcases ht with rfl | rfl <;> simp only [lampTransferEnd, hf, if_pos (driving_of hf hw), endLossRun_clearFlight]

/-- What a full refresh makes of the entry of a role that has an address (R138). -/
def refreshedEntry (s : State) (r : Role) (o : Option UpdateEntry) : Option UpdateEntry :=
  o.elim (some ⟨r, s.sgu.desired.get r, 0, s.rbc.modules.get r == some .faulty, none, false⟩)
    fun e => some { e with content := s.sgu.desired.get r, tries := 0 }

theorem fullRefresh_entryOf {r : Role} (h : s.sgu.roles.get r ≠ none) :
    entryOf (fullRefresh s).sgu.list r = refreshedEntry s r (entryOf s.sgu.list r) := by
  have member : r ∈ [Role.alert, .availability, .seats, .text] := by cases r <;> decide
  refine foldl_at (k := r) (l := [Role.alert, .availability, .seats, .text])
    (f := fun l q => if (s.sgu.roles.get q).isSome then
      enqueue q (s.sgu.desired.get q) (s.rbc.modules.get q == some .faulty) l else l)
    (read := fun l : List UpdateEntry => entryOf l r) (g := refreshedEntry s r) (fun l q hq => ?_) (fun l => ?_)
    (by decide) member s.sgu.list
  · split
    · exact entryOf_enqueue_ne (Ne.symm hq) _ _
    · rfl
  · rw [if_pos (Option.isSome_iff_ne_none.2 h)]
    cases he : entryOf l r with
    | none => exact entryOf_enqueue_new he _ _
    | some e => exact entryOf_enqueue_old he _ _

theorem refreshedEntry_content (s : State) (r : Role) (o : Option UpdateEntry) :
    ∃ e, refreshedEntry s r o = some e ∧ e.content = s.sgu.desired.get r ∧ e.tries = 0 := by
  cases o <;> exact ⟨_, rfl, rfl, rfl⟩

/-- A transfer that has ended on a bus the RBC did not lose. -/
theorem Rbc.ended_still {b : Rbc} (hw : b.arbWait = false) (busy : Bool) :
    b.ended busy = { b with flight := none, sending := [], busBusy := busy, arbLoss := 0 } := by
  rw [Rbc.ended, ← hw]

theorem lampRestore_still (hc : s.rbc.controller = .lampTest) (hf : s.rbc.flight = none) (hb : s.rbc.busBusy = false)
    (hr : s.rbc.recovering = false) (hw : s.rbc.arbWait = false) : lampRestore s = s.setRbc { s.rbc with
      phase := some .restore, lampTries := 0, lampRetry := none, litLeft := 0, flight := some .lampNormal
      sending := [0, 3, 0, 0xFD], busBusy := true } := by
  rw [lampRestore_starts hc hf hb hr, ← hw]

theorem beginLamp_still (hc : s.rbc.controller = .lampTest) (hf : s.rbc.flight = none) (hb : s.rbc.busBusy = false)
    (hr : s.rbc.recovering = false) (hl : s.rbc.lampRetry = none) (hw : s.rbc.arbWait = false) :
    (s.rbc.phase = some .allOn → beginLamp s = s.setRbc { s.rbc with
      flight := some .lampAllOn, sending := [0, 2, 0, 0xFE], busBusy := true }) ∧
    (s.rbc.phase = some .restore → beginLamp s = s.setRbc { s.rbc with
      flight := some .lampNormal, sending := [0, 3, 0, 0xFD], busBusy := true }) := by
  obtain ⟨allOn, normal⟩ := beginLamp_ready hc hf hb hr hl
  exact ⟨fun hp => (allOn hp).trans (by rw [← hw]), fun hp => (normal hp).trans (by rw [← hw])⟩

/-- The end of a lamp test, as it goes back to RUNNING or to HELD (R148, R151). -/
theorem endLampTest_running (hh : s.rbc.holdPending = false) : endLampTest s =
    fullRefresh ((raise (if s.rbc.lampCut then .lampTestCut else .lampTestDone) s).setRbc
      { s.rbc with
        controller := .running, phase := none, lampTries := 0, lampRetry := none, litLeft := 0, lampCut := false }) :=
  if_neg (hh ▸ Bool.false_ne_true)

theorem endLampTest_held (hh : s.rbc.holdPending = true) :
    endLampTest s = enterHeld (raise (if s.rbc.lampCut then .lampTestCut else .lampTestDone) s) := if_pos hh

theorem endLampTest_sign (s : State) : (raise (if s.rbc.lampCut then .lampTestCut else .lampTestDone) s).clc.notices.sign
    = s.clc.notices.sign.addReason (if s.rbc.lampCut then 5 else 4) := by
  cases s.rbc.lampCut <;> rfl

end

/-- Settles O45. -/
theorem lampTestPhases : Obligations.LampTestPhases := by
  unfold Obligations.LampTestPhases
  intro s hp hc hw
  have ends (t : Transfer) (hf : s.rbc.flight = some t) (ht : t = .lampAllOn ∨ t = .lampNormal) :
      exec .lampTransferEnd s = .next (nextLampPhase (s.setRbc
        { s.rbc with flight := none, sending := [], busBusy := false, arbLoss := 0 })) := by
    rw [lampTransferEnd_takes hp hf ht hw, Rbc.ended_still hw]
  have fails (t : Transfer) (hf : s.rbc.flight = some t) (ht : t = .lampAllOn ∨ t = .lampNormal) :
      exec .transferFailed s = .next (failLamp (s.setRbc
        { s.rbc with flight := none, sending := [], busBusy := false, arbLoss := 0 })) := by
    rw [transferFailed_takes hp hf hw, failTransfer_lamp hf ht, Rbc.ended_still hw]
  have restores (hcut : s.rbc.lampCut = true) (hph : s.rbc.phase = some .allOn) (hrec : s.rbc.recovering = false) :
      nextLampPhase (s.setRbc { s.rbc with flight := none, sending := [], busBusy := false, arbLoss := 0 }) = s.setRbc
        { s.rbc with
          flight := some .lampNormal, sending := [0, 3, 0, 0xFD], busBusy := true, arbLoss := 0, phase := some .restore
          lampTries := 0, lampRetry := none, litLeft := 0 } := by
    rw [nextLampPhase_allOn (by exact hph), if_pos (by exact hcut),
      lampRestore_still (by exact hc) (by rfl) (by rfl) (by exact hrec) (by exact hw)]
    rfl
  have lights (hcut : s.rbc.lampCut = false) (hph : s.rbc.phase = some .allOn) :
      nextLampPhase (s.setRbc { s.rbc with flight := none, sending := [], busBusy := false, arbLoss := 0 }) = s.setRbc
        { s.rbc with
          flight := none, sending := [], busBusy := false, arbLoss := 0, phase := some .lit, lampTries := 0
          lampRetry := none, litLeft := 3000 } := by
    exact (nextLampPhase_allOn (by exact hph)).trans (if_neg (show ¬ s.rbc.lampCut = true from hcut ▸ Bool.false_ne_true))
  refine ⟨fun hf hph hcut => (ends _ hf (.inl rfl)).trans (congrArg _ (lights hcut hph)), fun hph hf hb hr => ?litEnds,
    fun hf hph hcut hr c hcmd => ?cut, fun hf hph hcut ht => ?lastAllOn, fun hf hph ht => ?lastNormal, fun hf hph ht => ?againNormal,
    fun hl hf hb hr hph => ?retryNormal, fun hf hph hh => ?running, fun hf hph hh => ?held, fun hf hph hcut ht => ?againAllOn,
    fun hl hf hb hr hph => ?retryAllOn⟩
  case litEnds =>
    rw [exec_event (c := .lampLitEnd) rfl hp, if_pos ⟨hc, hph⟩, lampRestore_still hc hf hb hr hw]
  case cut =>
    rcases hcmd with rfl | rfl
    · exact (ends _ hf (.inl rfl)).trans (congrArg _ (restores hcut hph hr))
    · exact (fails _ hf (.inl rfl)).trans (congrArg _ ((failLamp_last (by exact .inr ⟨hph, hcut⟩)).trans (restores hcut hph hr)))
  case lastAllOn => exact (fails _ hf (.inl rfl)).trans (congrArg _ ((failLamp_last (by exact .inl ht)).trans (lights hcut hph)))
  case lastNormal =>
    exact (fails _ hf (.inr rfl)).trans ((congrArg _ (failLamp_last (by exact .inl ht))).trans (ends _ hf (.inr rfl)).symm)
  case againNormal =>
    refine (fails _ hf (.inr rfl)).trans (congrArg _ ((failLamp_again (by exact ht) ?_).trans rfl))
    exact fun h => nomatch h.1.symm.trans hph
  case againAllOn =>
    refine (fails _ hf (.inl rfl)).trans (congrArg _ ((failLamp_again (by exact ht) ?_).trans rfl))
    exact fun h => nomatch h.2.symm.trans hcut
  case retryNormal =>
    rw [exec_event (c := .lampTransferRetry) rfl hp, if_pos (Option.isSome_iff_ne_none.2 hl),
      (beginLamp_still (by exact hc) (by exact hf) (by exact hb) (by exact hr) (by rfl) (by exact hw)).2 (by exact hph)]
    rfl
  case retryAllOn =>
    rw [exec_event (c := .lampTransferRetry) rfl hp, if_pos (Option.isSome_iff_ne_none.2 hl),
      (beginLamp_still (by exact hc) (by exact hf) (by exact hb) (by exact hr) (by rfl) (by exact hw)).1 (by exact hph)]
    rfl
  case running =>
    have ended := (ends _ hf (.inr rfl)).trans (congrArg _ ((nextLampPhase_restore (by exact hph)).trans
      (endLampTest_running (by exact hh))))
    refine ⟨_, ended, rfl, rfl, rfl, rfl, endLampTest_sign _, fun r hr => ?_, rfl⟩
    rw [fullRefresh_entryOf (by exact hr)]
    exact refreshedEntry_content _ r _
  case held =>
    have ended := (ends _ hf (.inr rfl)).trans (congrArg _ ((nextLampPhase_restore (by exact hph)).trans
      (endLampTest_held (by exact hh))))
    exact ⟨_, ended, rfl, rfl, endLampTest_sign _⟩

end Sys2Proof.Machine

/-! ## The intercom: the front port and the rear link (R155 to R165) -/

namespace Sys2Proof.Machine

/-! ### Steps that touch the intercom alone -/

/-- A step of the intercom: it writes the PIU and raises reasons of the notice INTERCOM, and leaves the rest. -/
structure IntercomOnly (s t : State) : Prop where
  rest : ∃ n, t = (s.setPiu t.piu).setNotice .intercom n
  enabled : t.clc.notices.intercom.enabled = s.clc.notices.intercom.enabled
  reasons : ∀ b, s.clc.notices.intercom.reasons.getLsbD b = true → t.clc.notices.intercom.reasons.getLsbD b = true

/-- A reason of the notice INTERCOM stands, unless the notice is disabled. -/
def Noted (b : Nat) (s : State) : Prop :=
  s.clc.notices.intercom.enabled = true → s.clc.notices.intercom.reasons.getLsbD b = true

theorem Notice.addReason_reasons {n : Notice} {b : Nat} (j : Nat) (h : n.reasons.getLsbD j = true) :
    (n.addReason b).reasons.getLsbD j = true := by
  unfold Notice.addReason
  split
  · simp [h]
  · exact h

theorem Notice.addReason_reason {n : Notice} {b : Nat} (hb : b < 16) (h : n.enabled = true) :
    (n.addReason b).reasons.getLsbD b = true := by
  simp [Notice.addReason, h, hb]

theorem Reason.bit_lt (r : Reason) : r.bit < 16 := by
  unfold Reason.bit
  split <;> omega

theorem raise_intercom {r : Reason} (hr : r.kind = .intercom) (s : State) :
    (raise r s).clc.notices.intercom = s.clc.notices.intercom.addReason r.bit := by
  have := raise_get_kind r s
  rwa [hr] at this

namespace IntercomOnly

variable {s t u : State}

theorem refl (s : State) : IntercomOnly s s := ⟨⟨s.clc.notices.intercom, rfl⟩, rfl, fun _ h => h⟩

theorem trans (h : IntercomOnly s t) (h' : IntercomOnly t u) : IntercomOnly s u := by
  obtain ⟨n, ht⟩ := h.rest
  obtain ⟨m, hu⟩ := h'.rest
  refine ⟨⟨m, ?_⟩, h'.enabled.trans h.enabled, fun b hb => h'.reasons b (h.reasons b hb)⟩
  generalize u.piu = p at hu
  rw [hu, ht]
  rfl

theorem setPiu (h : IntercomOnly s t) (p : Piu) : IntercomOnly s (t.setPiu p) :=
  h.trans ⟨⟨t.clc.notices.intercom, rfl⟩, rfl, fun _ h => h⟩

theorem raise (h : IntercomOnly s t) {r : Reason} (hr : r.kind = .intercom) : IntercomOnly s (raise r t) := by
  have record := raise_intercom hr t
  refine h.trans ⟨⟨t.clc.notices.intercom.addReason r.bit, ?_⟩, ?_, fun b hb => ?_⟩
  · rw [Machine.raise, hr]
    rfl
  · rw [record, Notice.addReason_enabled]
  · rw [record]
    exact Notice.addReason_reasons b hb

theorem raiseSlip (h : IntercomOnly s t) (b : Bool) : IntercomOnly s (raiseSlip b t) := by
  unfold Machine.raiseSlip
  split
  · exact h.raise rfl
  · exact h

theorem noted {b : Nat} (h : IntercomOnly s t) (hn : Noted b s) : Noted b t :=
  fun he => h.reasons b (hn (h.enabled ▸ he))

/-- What a step has noted, in the words of the state before it. -/
theorem told {b : Nat} (h : IntercomOnly s t) (hn : Noted b t) (he : s.clc.notices.intercom.enabled = true) :
    t.clc.notices.intercom.reasons.getLsbD b = true := hn (h.enabled.trans he)

theorem fen (h : IntercomOnly s t) : t.fen = s.fen := by obtain ⟨n, e⟩ := h.rest; rw [e]; rfl
theorem sau (h : IntercomOnly s t) : t.sau = s.sau := by obtain ⟨n, e⟩ := h.rest; rw [e]; rfl
theorem miu (h : IntercomOnly s t) : t.miu = s.miu := by obtain ⟨n, e⟩ := h.rest; rw [e]; rfl
theorem vbu (h : IntercomOnly s t) : t.vbu = s.vbu := by obtain ⟨n, e⟩ := h.rest; rw [e]; rfl
theorem outsideKept (h : IntercomOnly s t) : outsideKept s t := by
  obtain ⟨n, e⟩ := h.rest
  rw [e]
  exact ⟨rfl, rfl, rfl⟩

end IntercomOnly

theorem noted_raise {r : Reason} (hr : r.kind = .intercom) (s : State) : Noted r.bit (raise r s) := by
  intro he
  rw [raise_intercom hr] at he ⊢
  exact Notice.addReason_reason r.bit_lt (by rwa [Notice.addReason_enabled] at he)

theorem noted_raiseSlip {b : Bool} (hb : b = true) (s : State) : Noted 0 (raiseSlip b s) := by
  rw [raiseSlip, if_pos hb]
  exact noted_raise (r := .slip) rfl s

/-! ### The elastic buffers (R158, R159) -/

section
variable {b : ElasticBuffer} (x : Block)

theorem arrive_room (h : b.blocks.length < b.depth) :
    (b.arrive x).buffer.blocks = b.blocks ++ [x] ∧ (b.arrive x).buffer.slips = b.slips := by
  have : b.arrive x = ⟨b.write x, x, false⟩ := if_pos h
  rw [this]
  exact ⟨rfl, rfl⟩

/-- A block arrives at a full buffer: an overrun to the start offset, with a slip. -/
theorem arrive_full (h : b.blocks.length = b.depth) (ho : b.offset < b.depth) :
    (b.arrive x).buffer.blocks = b.blocks.drop (b.depth - b.offset) ++ [x] ∧
    (b.arrive x).buffer.blocks.length = b.offset + 1 ∧ (b.arrive x).buffer.slips = min (b.slips + 1) 65535 ∧
    (b.arrive x).slip = true := by
  have overrun : b.arrive x = ⟨(b.discard.write x).countSlip, x, true⟩ := if_neg (by rw [ElasticBuffer.level]; omega)
  have blocks : (b.arrive x).buffer.blocks = b.blocks.drop (b.depth - b.offset) ++ [x] := by
    rw [overrun, ← h]
    rfl
  refine ⟨blocks, ?_, overrun ▸ rfl, overrun ▸ rfl⟩
  rw [blocks, List.length_append, List.length_drop, List.length_singleton]
  omega

theorem read_underrun (hf : b.flowing = true) (hb : b.blocks = []) :
    b.read.buffer.slips = min (b.slips + 1) 65535 ∧ b.read.slip = true := by
  have : b.read = ⟨{ b with flowing := false }.countSlip, silence, true⟩ := by simp only [ElasticBuffer.read, if_pos hf, hb]
  rw [this]
  exact ⟨rfl, rfl⟩

end

/-! ### The block sent to the front (Table 8-4) -/

section
variable {s : State} (received fromRear : Block)

theorem active_of_ne {p : TestPhase} (h : p ≠ .none) : p.active = true := bne_iff_ne.2 h

theorem frontBlock_silent (h : s.piu.phase ≠ .none ∨ s.piu.loop = .rearRemote) (hf : s.piu.loop ≠ .frontLocal)
    (hd : s.piu.loop ≠ .dual) : frontBlock s received fromRear = silence := by
  unfold frontBlock
  rw [if_neg (show ¬ (s.piu.loop = .frontLocal ∨ s.piu.loop = .dual) from fun h => h.elim hf hd)]
  rcases h with hp | hl
  · exact if_pos (active_of_ne hp)
  · rw [if_pos hl, ite_self]

theorem frontBlock_looped (hp : s.piu.phase = .none) (h : s.piu.loop = .frontLocal ∨ s.piu.loop = .dual) :
    frontBlock s received fromRear = received := by
  rw [frontBlock, hp]
  exact if_pos h

theorem frontBlock_unlooped (hp : s.piu.phase = .none) (h : s.piu.loop = .none) : frontBlock s received fromRear =
    if s.piu.pinMute.inForce then silence else if s.piu.chime.isSome then chimeBlock
    else if rearToFrontOpen s then fromRear else silence := by
  rw [frontBlock, hp, h]
  rfl

end

/-! ### The front port (R155) -/

section
variable {s : State} (block : Block)

theorem chimeOver_rings (h : s.piu.chime ≠ some 0) : chimeOver s = s := if_neg h

theorem chimeOver_over (h : s.piu.chime = some 0) : chimeOver s = s.setPiu { s.piu with chime := none } := if_pos h

theorem completeFront_piu (h : s.piu.chime ≠ some 0) : (completeFront block s).piu =
    { s.piu with
      r2f := s.piu.r2f.read.buffer, fdo := frontBlock s block s.piu.r2f.read.block, chime := s.piu.chime.map (· - 1)
      f2r := if s.piu.rearUp then (s.piu.f2r.arrive block).buffer else s.piu.f2r } := by
  rw [completeFront, chimeOver_rings h]
  cases hr : s.piu.rearUp <;> simp [hr]

theorem completeFront_step (h : s.piu.chime ≠ some 0) : IntercomOnly s (completeFront block s) ∧
    (s.piu.r2f.read.slip = true → Noted 0 (completeFront block s)) ∧
    (s.piu.rearUp = true → (s.piu.f2r.arrive block).slip = true → Noted 0 (completeFront block s)) := by
  rw [completeFront, chimeOver_rings h]
  dsimp only
  split
  case isTrue hr =>
    refine ⟨(((IntercomOnly.refl s).setPiu _).raiseSlip _).raiseSlip _, fun hs => ?_, fun _ hs => noted_raiseSlip hs _⟩
    exact ((IntercomOnly.refl _).raiseSlip _).noted (noted_raiseSlip hs _)
  case isFalse hr =>
    exact ⟨((IntercomOnly.refl s).setPiu _).raiseSlip _, fun hs => noted_raiseSlip hs _, fun h => absurd h hr⟩

theorem frontCompletion_running (hp : powered s = true) (hh : s.piu.held = false) :
    exec (.frontCompletion block) s = .next (completeFront block s) := by
  rw [exec_event (c := .frontCompletion block) rfl hp, frontCompletion, hh]
  rfl

end

/-- Settles O46. -/
theorem frontPortEvents : Obligations.FrontPortEvents := by
  unfold Obligations.FrontPortEvents
  intro s block hp
  refine ⟨fun hh => ?held, fun hh hc => ?chimed, fun hh hc => ?running, fun hh hc hr hl ho => ?overrun, fun hh hc hr hl => ?room,
    fun p => exec_event (c := .frontTalkButton p) rfl hp,
    fun hc => (exec_event (c := .chimeEnd) rfl hp).trans (congrArg _ (chimeOver_over hc)), fun n hn => ?hold⟩
  case held => rw [exec_event (c := .frontCompletion block) rfl hp, frontCompletion, if_pos hh]
  case chimed =>
    rw [frontCompletion_running block hp hh, frontCompletion_running block (by exact hp) (by exact hh), completeFront,
      completeFront, chimeOver_over hc, chimeOver_rings (by exact Option.some_ne_none 0 ∘ Eq.symm)]
  case running =>
    obtain ⟨step, under, _⟩ := completeFront_step block hc
    have piu := completeFront_piu block hc
    refine ⟨_, frontCompletion_running block hp hh, ?_⟩
    generalize completeFront block s = t at step under piu
    refine ⟨piu ▸ rfl, piu ▸ rfl, piu ▸ rfl, fun h hf hd => ?_, fun hn h => ?_, fun hn hl hm => ?_, fun hn hl hm hch => ?_,
      fun hn hl hm hch => ?_, fun hf hb => ?_, step.fen, step.sau, step.miu, step.vbu, step.outsideKept⟩
    · rw [piu]; exact frontBlock_silent _ _ h hf hd
    · rw [piu]; exact frontBlock_looped _ _ hn h
    · rw [piu]; exact (frontBlock_unlooped _ _ hn hl).trans (if_pos (bne_iff_ne.2 hm))
    · rw [piu]
      refine (frontBlock_unlooped _ _ hn hl).trans ?_
      rw [hm, if_neg (by decide), if_pos (Option.isSome_iff_ne_none.2 hch)]
    · rw [piu]
      refine (frontBlock_unlooped _ _ hn hl).trans ?_
      rw [hm, hch]
      rfl
    · obtain ⟨count, slip⟩ := read_underrun hf hb
      exact ⟨piu ▸ count, step.told (under slip)⟩
  case overrun =>
    obtain ⟨step, _, slipped⟩ := completeFront_step block hc
    obtain ⟨blocks, level, slips, slip⟩ := arrive_full block hl ho
    have f2r : (completeFront block s).piu.f2r = (s.piu.f2r.arrive block).buffer := by
      rw [completeFront_piu block hc]
      exact if_pos hr
    exact ⟨_, frontCompletion_running block hp hh, f2r ▸ blocks, f2r ▸ level, f2r ▸ slips, step.told (slipped hr slip)⟩
  case room =>
    obtain ⟨blocks, slips⟩ := arrive_room block hl
    have f2r : (completeFront block s).piu.f2r = (s.piu.f2r.arrive block).buffer := by
      rw [completeFront_piu block hc]
      exact if_pos hr
    exact ⟨_, frontCompletion_running block hp hh, f2r ▸ blocks, f2r ▸ slips⟩
  case hold =>
    rw [exec_event (c := .pinHoldExpiry) rfl hp, expirePinHold, hn]

end Sys2Proof.Machine

/-! ## The frames of the rear link (R156 to R171) -/

namespace Sys2Proof.Machine

/-! ### What a valid frame brings -/

/-- A valid frame taken, up to its loop code: the link UP, the block arrived, the call and the status noted. -/
def heardFrame (control : Byte) (block : Block) (s : State) : State :=
  let called := takeCall (control.getLsbD 7) (arriveRear block (linkRear s))
  called.setPiu { called.piu with lastStatus := (control &&& 0x0F).toNat }

section
variable (c : Byte) (block : Block) (s : State)

theorem linkRear_piu : (linkRear s).piu = { s.piu with rearUp := true } := by
  unfold linkRear
  split
  case isTrue h => rw [← h]
  case isFalse => rfl

theorem linkRear_step : IntercomOnly s (linkRear s) ∧ (s.piu.rearUp = false → Noted 2 (linkRear s)) := by
  unfold linkRear
  split
  case isTrue h => exact ⟨.refl s, fun h' => absurd h (h' ▸ Bool.false_ne_true)⟩
  case isFalse => exact ⟨((IntercomOnly.refl s).setPiu _).raise rfl, fun _ => noted_raise (r := .rearBack) rfl _⟩

theorem arriveRear_piu : (arriveRear block s).piu =
    { s.piu with r2f := if s.piu.held then s.piu.r2f else (s.piu.r2f.arrive block).buffer } := by
  unfold arriveRear
  split <;> simp

theorem arriveRear_step : IntercomOnly s (arriveRear block s) ∧
    (s.piu.held = false → (s.piu.r2f.arrive block).slip = true → Noted 0 (arriveRear block s)) := by
  unfold arriveRear
  split
  case isTrue h => exact ⟨.refl s, fun h' => absurd h (h' ▸ Bool.false_ne_true)⟩
  case isFalse => exact ⟨((IntercomOnly.refl s).setPiu _).raiseSlip _, fun _ hs => noted_raiseSlip hs _⟩

theorem takeCall_piu (pressed : Bool) : ∃ n, (takeCall pressed s).piu = { s.piu with lastCall := pressed, chime := n } := by
  unfold takeCall
  dsimp only
  split
  · split
    · exact ⟨some 125, rfl⟩
    · exact ⟨s.piu.chime, rfl⟩
  · exact ⟨s.piu.chime, rfl⟩

theorem takeCall_step (pressed : Bool) : IntercomOnly s (takeCall pressed s) ∧
    (pressed = true → s.piu.lastCall = false → Noted 3 (takeCall pressed s)) := by
  unfold takeCall
  dsimp only
  split
  case isTrue =>
    refine ⟨IntercomOnly.raise ?_ rfl, fun _ _ => noted_raise (r := .rearCall) rfl _⟩
    split
    · exact ((IntercomOnly.refl s).setPiu _).setPiu _
    · exact (IntercomOnly.refl s).setPiu _
  case isFalse h =>
    exact ⟨(IntercomOnly.refl s).setPiu _, fun hp hl => absurd ⟨hp, hl ▸ Bool.false_ne_true⟩ h⟩

theorem heardFrame_piu : ∃ n, (heardFrame c block s).piu =
    { s.piu with
      rearUp := true, r2f := if s.piu.held then s.piu.r2f else (s.piu.r2f.arrive block).buffer
      lastCall := c.getLsbD 7, chime := n, lastStatus := (c &&& 0x0F).toNat } := by
  obtain ⟨n, called⟩ := takeCall_piu (arriveRear block (linkRear s)) (c.getLsbD 7)
  refine ⟨n, ?_⟩
  rw [heardFrame, State.setPiu_piu, called, arriveRear_piu, linkRear_piu]

theorem heardFrame_step : IntercomOnly s (heardFrame c block s) ∧
    (s.piu.rearUp = false → Noted 2 (heardFrame c block s)) ∧
    (c.getLsbD 7 = true → s.piu.lastCall = false → Noted 3 (heardFrame c block s)) ∧
    (s.piu.held = false → (s.piu.r2f.arrive block).slip = true → Noted 0 (heardFrame c block s)) := by
  obtain ⟨linked, back⟩ := linkRear_step s
  obtain ⟨arrived, slip⟩ := arriveRear_step block (linkRear s)
  obtain ⟨called, call⟩ := takeCall_step (arriveRear block (linkRear s)) (c.getLsbD 7)
  rw [arriveRear_piu, linkRear_piu] at call
  rw [linkRear_piu] at slip
  have last := called.setPiu { (takeCall (c.getLsbD 7) (arriveRear block (linkRear s))).piu with
    lastStatus := (c &&& 0x0F).toNat }
  exact ⟨(linked.trans arrived).trans last, fun h => last.noted (arrived.noted (back h)),
    fun hp h => call hp h, fun hh h => last.noted (slip hh h)⟩

end

/-! ### The loop code (R168) -/

section
variable (code : Byte) (s : State)

/-- The LOOP_UP run after a frame with the loop code given. -/
def loopUpRun : Nat := if s.piu.autoLoop && countsLoopUp s && code == 1 then s.piu.upRun + 1 else 0

/-- The LOOP_DOWN run after a frame with the loop code given. -/
def loopDownRun : Nat :=
  if s.piu.autoLoop && s.piu.loop != .none && s.piu.loopRemote && code == 2 then s.piu.downRun + 1 else 0

theorem takeLoopCode_eq : takeLoopCode code s =
    if 25 ≤ loopUpRun code s then raise .remoteLoopOn (s.setPiu
      { s.piu with upRun := 0, downRun := loopDownRun code s, loop := .rearRemote, loopRemote := true })
    else if 25 ≤ loopDownRun code s then raise .remoteLoopOff (s.setPiu
      { s.piu with upRun := loopUpRun code s, downRun := 0, loop := .none })
    else s.setPiu { s.piu with upRun := loopUpRun code s, downRun := loopDownRun code s } := rfl

theorem takeLoopCode_step : IntercomOnly s (takeLoopCode code s) := by
  rw [takeLoopCode_eq]
  split
  · exact ((IntercomOnly.refl s).setPiu _).raise rfl
  · split
    · exact ((IntercomOnly.refl s).setPiu _).raise rfl
    · exact (IntercomOnly.refl s).setPiu _

theorem takeLoopCode_piu : ∃ u d l r, (takeLoopCode code s).piu =
    { s.piu with upRun := u, downRun := d, loop := l, loopRemote := r } := by
  rw [takeLoopCode_eq]
  split
  · exact ⟨_, _, _, _, rfl⟩
  · split <;> exact ⟨_, _, _, _, rfl⟩

variable {code s}

/-- Where the LOOP_UP run counts, in the words of the obligations. -/
theorem loopUpRun_running (hh : s.piu.held = false) (hp : s.piu.phase = .none) : loopUpRun code s =
    if s.piu.autoLoop = true ∧ occupied s = false ∧ s.piu.loop = .none ∧ code = 1 then s.piu.upRun + 1 else 0 := by
  simp [loopUpRun, countsLoopUp, cabEmpty, hh, hp, and_assoc]

theorem loopDownRun_eq : loopDownRun code s =
    if s.piu.autoLoop = true ∧ s.piu.loop ≠ .none ∧ s.piu.loopRemote = true ∧ code = 2 then s.piu.downRun + 1 else 0 := by
  simp [loopDownRun, and_assoc]

theorem loopUpRun_below (h : s.piu.autoLoop = false ∨ s.piu.upRun < 24) : loopUpRun code s < 25 := by
  unfold loopUpRun
  split
  case isTrue hc => exact h.elim (fun ha => by simp [ha] at hc) fun hu => by omega
  case isFalse => omega

theorem loopDownRun_below (h : s.piu.autoLoop = false ∨ s.piu.downRun < 24) : loopDownRun code s < 25 := by
  unfold loopDownRun
  split
  case isTrue hc => exact h.elim (fun ha => by simp [ha] at hc) fun hu => by omega
  case isFalse => omega

theorem loopUpRun_heard (c : Byte) (block : Block) : loopUpRun code (heardFrame c block s) = loopUpRun code s := by
  obtain ⟨n, piu⟩ := heardFrame_piu c block s
  unfold loopUpRun countsLoopUp cabEmpty occupied
  rw [piu, (heardFrame_step c block s).1.fen]

theorem loopDownRun_heard (c : Byte) (block : Block) : loopDownRun code (heardFrame c block s) = loopDownRun code s := by
  obtain ⟨n, piu⟩ := heardFrame_piu c block s
  unfold loopDownRun
  rw [piu]

end

/-! ### The checker (R170) -/

section
variable {block : Block} {s : State}

theorem takeChecked_idle (h : s.piu.phase ≠ .running) : takeChecked block s = s := if_neg h

theorem takeChecked_search {reg : BitVec 15} {bits : Nat} {r : SearchRun} (h : s.piu.phase = .running)
    (hc : s.piu.checker = .search reg bits) (hr : r = (blockBits block).foldl searchBit ⟨reg, bits, true, false⟩) :
    takeChecked block s =
      if r.matched && r.ones then raise .testSync (s.setPiu { s.piu with checker := .sync r.reg 0 })
      else s.setPiu { s.piu with checker := .search r.reg r.bits } := by
  subst hr
  rw [takeChecked, if_pos h, hc]

/-- The PIU after a block that the checker in SYNC compared. -/
def comparedPiu (p : Piu) (r : SyncRun) (c : Checker) : Piu :=
  { p with
    checked := satAdd max32 p.checked 1, errored := satAdd max32 p.errored 1
    bitErrors := satAdd max32 p.bitErrors r.diff, checker := c }

theorem takeChecked_sync {reg : BitVec 15} {errors : Nat} {r : SyncRun} (h : s.piu.phase = .running)
    (hc : s.piu.checker = .sync reg errors) (hr : r = (blockBits block).foldl syncBit ⟨reg, 0⟩) :
    takeChecked block s =
      if r.diff = 0 then s.setPiu { s.piu with checked := satAdd max32 s.piu.checked 1, checker := .sync r.reg 0 }
      else if errors + 1 ≥ 4 then raise .testSyncLost (s.setPiu (comparedPiu s.piu r (.search 0 0)))
      else s.setPiu (comparedPiu s.piu r (.sync r.reg (errors + 1))) := by
  subst hr
  rw [takeChecked, if_pos h, hc]
  rfl

variable (block s)

theorem takeChecked_step : IntercomOnly s (takeChecked block s) := by
  have writes (p : Piu) := (IntercomOnly.refl s).setPiu p
  by_cases h : s.piu.phase = .running
  case neg => rw [takeChecked_idle h]; exact .refl s
  case pos =>
    cases hc : s.piu.checker with
    | search reg bits =>
      rw [takeChecked_search h hc rfl]
      split
      · exact (writes _).raise rfl
      · exact writes _
    | sync reg errors =>
      rw [takeChecked_sync h hc rfl]
      split
      · exact writes _
      · split
        · exact (writes _).raise rfl
        · exact writes _

theorem takeChecked_piu : ∃ k n e b, (takeChecked block s).piu =
    { s.piu with checker := k, checked := n, errored := e, bitErrors := b } := by
  by_cases h : s.piu.phase = .running
  case neg => rw [takeChecked_idle h]; exact ⟨_, _, _, _, rfl⟩
  case pos =>
    cases hc : s.piu.checker with
    | search reg bits =>
      rw [takeChecked_search h hc rfl]
      split <;> exact ⟨_, _, _, _, rfl⟩
    | sync reg errors =>
      rw [takeChecked_sync h hc rfl]
      split
      · exact ⟨_, _, _, _, rfl⟩
      · split <;> exact ⟨_, _, _, _, rfl⟩

end

/-! ### The reply (R163, R169, Table 8-5) -/

section
variable (block : Block) (s : State)

theorem rearReply_step : IntercomOnly s (rearReply block s) := by
  unfold rearReply
  dsimp only
  split
  · exact (IntercomOnly.refl s).setPiu _
  · refine IntercomOnly.raiseSlip ?_ _
    split <;> exact (IntercomOnly.refl s).setPiu _

variable {s}

theorem rearReply_held (hh : s.piu.held = true) : (rearReply block s).piu =
    { s.piu with
      loopDown := s.piu.loopDown - 1
      rlo := s.piu.rlo ++ [rearFrameBytes (replyControl (downCode s.piu) (frontToRearOpen s)) silence] } := by
  rw [rearReply]
  exact congrArg State.piu (if_pos hh)

theorem rearReply_none (hh : s.piu.held = false) (hp : s.piu.phase = .none) : (rearReply block s).piu =
    { s.piu with
      f2r := s.piu.f2r.read.buffer, loopDown := s.piu.loopDown - 1
      rlo := s.piu.rlo ++ [rearFrameBytes (replyControl (downCode s.piu) (frontToRearOpen s))
        (if s.piu.loop = .rearRemote ∨ s.piu.loop = .dual then block
          else if s.piu.loop = .frontLocal then silence
          else if frontToRearOpen s then s.piu.f2r.read.block
          else silence)] } := by
  simp [rearReply, hh, hp, downCode, owesLoopDown]

theorem rearReply_announce {n : Nat} (hh : s.piu.held = false) (hp : s.piu.phase = .announce n) :
    (rearReply block s).piu =
      { s.piu with
        f2r := s.piu.f2r.read.buffer, phase := if n + 1 ≥ 25 then .running else .announce (n + 1)
        rlo := s.piu.rlo ++ [rearFrameBytes (replyControl 1 (frontToRearOpen s)) silence] } := by
  simp [rearReply, hh, hp]

theorem rearReply_running (hh : s.piu.held = false) (hp : s.piu.phase = .running) : (rearReply block s).piu =
    { s.piu with
      f2r := s.piu.f2r.read.buffer, gen := (genSamples 32 s.piu.gen).2, insertion := false
      rlo := s.piu.rlo ++ [rearFrameBytes (replyControl 0 (frontToRearOpen s))
        (if s.piu.insertion then (genSamples 32 s.piu.gen).1.modifyHead (· ^^^ 0x8000)
          else (genSamples 32 s.piu.gen).1)] } := by
  simp [rearReply, hh, hp]

variable (s)

/-- What a reply writes of the PIU, whatever its state. -/
theorem rearReply_piu : ∃ f l ph g i o, (rearReply block s).piu =
    { s.piu with f2r := f, loopDown := l, phase := ph, gen := g, insertion := i, rlo := o } := by
  cases hh : s.piu.held with
  | true => exact ⟨_, _, _, _, _, _, rearReply_held block hh⟩
  | false =>
    cases hp : s.piu.phase with
    | none => exact ⟨_, _, _, _, _, _, rearReply_none block hh hp⟩
    | announce n => exact ⟨_, _, _, _, _, _, rearReply_announce block hh hp⟩
    | running => exact ⟨_, _, _, _, _, _, rearReply_running block hh hp⟩

end

theorem replyControl_down (p : Piu) (speaking : Bool) : replyControl (downCode p) speaking =
    (if 0 < p.loopDown then 0x20 else 0) ||| (if speaking then 1 else 0) := by
  by_cases h : 0 < p.loopDown <;> simp [replyControl, downCode, owesLoopDown, h]

/-! ### A valid frame -/

section
variable (c : Byte) (block : Block) (s : State)

/-- A valid frame up to its reply. -/
def codedFrame : State := takeChecked block (takeLoopCode (loopCode c) (heardFrame c block s))

theorem takeValidFrame_eq : takeValidFrame c block s = rearReply block (codedFrame c block s) := rfl

theorem codedFrame_piu : ∃ n u d l r k m e b, (codedFrame c block s).piu =
    { s.piu with
      rearUp := true, r2f := if s.piu.held then s.piu.r2f else (s.piu.r2f.arrive block).buffer
      lastCall := c.getLsbD 7, chime := n, lastStatus := (c &&& 0x0F).toNat, upRun := u, downRun := d, loop := l
      loopRemote := r, checker := k, checked := m, errored := e, bitErrors := b } := by
  obtain ⟨n, heard⟩ := heardFrame_piu c block s
  obtain ⟨u, d, l, r, coded⟩ := takeLoopCode_piu (loopCode c) (heardFrame c block s)
  obtain ⟨k, m, e, b, checked⟩ := takeChecked_piu block (takeLoopCode (loopCode c) (heardFrame c block s))
  refine ⟨n, u, d, l, r, k, m, e, b, ?_⟩
  rw [codedFrame, checked, coded, heard]

theorem takeValidFrame_step : IntercomOnly s (takeValidFrame c block s) ∧
    (s.piu.rearUp = false → Noted 2 (takeValidFrame c block s)) ∧
    (c.getLsbD 7 = true → s.piu.lastCall = false → Noted 3 (takeValidFrame c block s)) ∧
    (s.piu.held = false → (s.piu.r2f.arrive block).slip = true → Noted 0 (takeValidFrame c block s)) := by
  obtain ⟨heard, back, call, slip⟩ := heardFrame_step c block s
  have rest := ((takeLoopCode_step (loopCode c) (heardFrame c block s)).trans (takeChecked_step block _)).trans
    (rearReply_step block _)
  exact ⟨heard.trans rest, fun h => rest.noted (back h), fun hp h => rest.noted (call hp h), fun hh h => rest.noted (slip hh h)⟩

variable {s}

/-- A valid frame while no run is completed and no test is active. -/
theorem takeValidFrame_quiet (hh : s.piu.held = false) (hp : s.piu.phase = .none)
    (hu : loopUpRun (loopCode c) s < 25) (hd : loopDownRun (loopCode c) s < 25) :
    ∃ n, (takeValidFrame c block s).piu =
      { s.piu with
        rearUp := true, lastCall := c.getLsbD 7, lastStatus := (c &&& 0x0F).toNat, r2f := (s.piu.r2f.arrive block).buffer
        chime := n, upRun := loopUpRun (loopCode c) s, downRun := loopDownRun (loopCode c) s
        f2r := s.piu.f2r.read.buffer, loopDown := s.piu.loopDown - 1
        rlo := s.piu.rlo ++ [rearFrameBytes (replyControl (downCode s.piu) (frontToRearOpen s))
          (if s.piu.loop = .rearRemote ∨ s.piu.loop = .dual then block
            else if s.piu.loop = .frontLocal then silence
            else if frontToRearOpen s then s.piu.f2r.read.block
            else silence)] } := by
  obtain ⟨n, piu⟩ := heardFrame_piu c block s
  rw [hh, if_neg Bool.false_ne_true] at piu
  have coded : takeLoopCode (loopCode c) (heardFrame c block s) = (heardFrame c block s).setPiu
      { (heardFrame c block s).piu with upRun := loopUpRun (loopCode c) s, downRun := loopDownRun (loopCode c) s } := by
    rw [takeLoopCode_eq, loopUpRun_heard, loopDownRun_heard, if_neg (Nat.not_le.2 hu), if_neg (Nat.not_le.2 hd)]
  rw [piu] at coded
  refine ⟨n, ?_⟩
  rw [takeValidFrame_eq, codedFrame, coded, takeChecked_idle (by exact hp ▸ TestPhase.noConfusion),
    rearReply_none block (by exact hh) (by exact hp)]
  rfl

/-- What every valid frame leaves of the rear-to-front buffer and of the link. -/
theorem takeValidFrame_kept : (takeValidFrame c block s).piu.rearUp = true ∧ (takeValidFrame c block s).piu.r2f =
    if s.piu.held then s.piu.r2f else (s.piu.r2f.arrive block).buffer := by
  obtain ⟨n, u, d, l, r, k, m, e, b, coded⟩ := codedFrame_piu c block s
  obtain ⟨f, ld, ph, g, i, o, replied⟩ := rearReply_piu block (codedFrame c block s)
  rw [takeValidFrame_eq, replied, coded]
  exact ⟨rfl, rfl⟩

end

end Sys2Proof.Machine

/-! ## The rear link: rows of bytes, and its loss (R156, R157, R168 to R171) -/

namespace Sys2Proof.Machine

/-! ### A row with one whole frame -/

section
variable {s : State} {before after noise more : List Byte} {x c k : Byte} {block : Block}

theorem rearFrame_takes (hp : powered s = true) :
    exec (.rearFrame before x after) s = .next (hearRear (before ++ x :: after) s) :=
  exec_event (c := .rearFrame before x after) rfl hp

theorem rearFrame_one (hp : powered s = true) (hb : s.piu.begun = []) (hn : ∀ b ∈ noise, b ≠ 0xA7)
    (hm : ∀ b ∈ more, b ≠ 0xA7) (hl : block.length = 32)
    (row : before ++ x :: after = noise ++ 0xA7 :: c :: (blockBytes block ++ k :: more)) :
    exec (.rearFrame before x after) s = .next (takeRearFrame c block k (beforeRow s)) := by
  rw [rearFrame_takes hp, row, hearRear_frame s noise more c k block hb hn hl hm]

/-- A row named for a change that its one frame makes. -/
theorem rearFrameIf_one {change : Piu → Piu → Bool} (hb : s.piu.begun = []) (hn : ∀ b ∈ noise, b ≠ 0xA7)
    (hm : ∀ b ∈ more, b ≠ 0xA7) (hl : block.length = 32)
    (row : before ++ x :: after = noise ++ 0xA7 :: c :: (blockBytes block ++ k :: more))
    (hc : change { s.piu with begun := 0xA7 :: c :: blockBytes block, rlo := [] }
      (takeRearFrame c block k (beforeRow s)).piu = true) :
    rearFrameIf change (heardBytes before x after) s = takeRearFrame c block k (beforeRow s) := by
  rw [heardBytes, row, rearFrameIf_frame change s noise more c k block hb hn hl hm hc]

theorem takeRearFrame_valid (h : rearCheckOk c block k = true) : takeRearFrame c block k s = takeValidFrame c block s := if_pos h

theorem takeRearFrame_damaged (h : rearCheckOk c block k = false) : takeRearFrame c block k s = takeDamagedFrame block s :=
  if_neg (h ▸ Bool.false_ne_true)

end

/-! ### A damaged frame (R156, R157) -/

section
variable (block : Block) {s : State}

theorem takeDamagedFrame_lost (hr : s.piu.rearUp = false) (hp : s.piu.phase ≠ .running) :
    takeDamagedFrame block s = s.setPiu { s.piu with damaged := satAdd max16 s.piu.damaged 1 } := by
  have counted : takeChecked block (s.setPiu { s.piu with damaged := satAdd max16 s.piu.damaged 1 }) =
      s.setPiu { s.piu with damaged := satAdd max16 s.piu.damaged 1 } := takeChecked_idle (by exact hp)
  rw [takeDamagedFrame, if_neg (hr ▸ Bool.false_ne_true), counted]

theorem takeDamagedFrame_up (hr : s.piu.rearUp = true) (hp : s.piu.phase ≠ .running) : takeDamagedFrame block s =
    rearReply block (s.setPiu { s.piu with damaged := satAdd max16 s.piu.damaged 1 }) := by
  have counted : takeChecked block (s.setPiu { s.piu with damaged := satAdd max16 s.piu.damaged 1 }) =
      s.setPiu { s.piu with damaged := satAdd max16 s.piu.damaged 1 } := takeChecked_idle (by exact hp)
  rw [takeDamagedFrame, if_pos hr, counted]

/-- Every reply is one frame. -/
theorem rearReply_rlo (s : State) : ∃ d b, (rearReply block s).piu.rlo = s.piu.rlo ++ [rearFrameBytes d b] := by
  cases hh : s.piu.held with
  | true => rw [rearReply_held block hh]; exact ⟨_, _, rfl⟩
  | false =>
    cases hp : s.piu.phase with
    | none => rw [rearReply_none block hh hp]; exact ⟨_, _, rfl⟩
    | announce n => rw [rearReply_announce block hh hp]; exact ⟨_, _, rfl⟩
    | running => rw [rearReply_running block hh hp]; exact ⟨_, _, rfl⟩

end

/-! ### The rear link lost (R157) -/

/-- The loss of the link ends a remote loop. -/
def loseLoop (s : State) : State :=
  if s.piu.loop ≠ .none ∧ s.piu.loopRemote then raise .remoteLoopOff (s.setPiu { s.piu with loop := .none }) else s

/-- The loss of the link loses the synchronism of an active test. -/
def loseSync (s : State) : State :=
  if s.piu.checker.code = 1 ∧ s.piu.phase ≠ .none then
    raise .testSyncLost (s.setPiu { s.piu with checker := .search 0 0 })
  else s

section
variable (s : State)

/-- The link LOST, before its loop and its test. -/
def rearDown : State :=
  raise .rearLost (s.setPiu
    { s.piu with
      rearUp := false, r2f := s.piu.r2f.drain, f2r := s.piu.f2r.drain, lastCall := false, upRun := 0, downRun := 0 })

theorem loseLoop_piu : (loseLoop s).piu = { s.piu with loop := if s.piu.loopRemote then .none else s.piu.loop } := by
  unfold loseLoop
  split
  case isTrue h => rw [if_pos h.2]; rfl
  case isFalse h =>
    split
    case isTrue hr => rw [← Classical.not_not.1 fun hl => h ⟨hl, hr⟩]
    case isFalse => rfl

theorem loseLoop_step : IntercomOnly s (loseLoop s) ∧
    (s.piu.loop ≠ .none → s.piu.loopRemote = true → Noted 6 (loseLoop s)) := by
  unfold loseLoop
  split
  case isTrue => exact ⟨((IntercomOnly.refl s).setPiu _).raise rfl, fun _ _ => noted_raise (r := .remoteLoopOff) rfl _⟩
  case isFalse h => exact ⟨.refl s, fun hl hr => absurd ⟨hl, hr⟩ h⟩

theorem loseSync_piu : ∃ k, (loseSync s).piu = { s.piu with checker := k } := by
  unfold loseSync
  split
  · exact ⟨_, rfl⟩
  · exact ⟨_, rfl⟩

theorem loseSync_step : IntercomOnly s (loseSync s) ∧
    (∀ reg errors, s.piu.phase ≠ .none → s.piu.checker = .sync reg errors →
      (loseSync s).piu.checker = .search 0 0 ∧ Noted 8 (loseSync s)) := by
  unfold loseSync
  split
  case isTrue =>
    exact ⟨((IntercomOnly.refl s).setPiu _).raise rfl, fun _ _ _ _ => ⟨rfl, noted_raise (r := .testSyncLost) rfl _⟩⟩
  case isFalse h => exact ⟨.refl s, fun _ _ hp hc => absurd ⟨hc ▸ rfl, hp⟩ h⟩

theorem loseRear_eq : loseRear s = loseSync (loseLoop (rearDown s)) := by
  have piu := loseLoop_piu (rearDown s)
  have checker : (loseLoop (rearDown s)).piu.checker = s.piu.checker := piu ▸ rfl
  have phase : (loseLoop (rearDown s)).piu.phase = s.piu.phase := piu ▸ rfl
  rw [loseSync, checker, phase, loseRear]
  cases s.piu.checker with
  | search reg bits => rfl
  | sync reg errors =>
    by_cases hp : s.piu.phase = .none
    · exact (if_neg (show ¬ s.piu.phase.active = true from hp ▸ Bool.false_ne_true)).trans (if_neg fun h => h.2 hp).symm
    · exact (if_pos (active_of_ne hp)).trans (if_pos ⟨rfl, hp⟩).symm

theorem rearDown_step : IntercomOnly s (rearDown s) ∧ Noted 1 (rearDown s) :=
  ⟨((IntercomOnly.refl s).setPiu _).raise rfl, noted_raise (r := .rearLost) rfl _⟩

end

section
variable {s : State}

theorem loseRear_quiet (hl : s.piu.loopRemote = false) (hp : s.piu.phase = .none) : loseRear s = rearDown s := by
  have noLoop : loseLoop (rearDown s) = rearDown s := if_neg fun h => Bool.false_ne_true (hl.symm.trans h.2)
  rw [loseRear_eq, noLoop]
  exact if_neg fun h => h.2 hp

theorem rearLinkLost_takes (hp : powered s = true) (hr : s.piu.rearUp = true) :
    exec .rearLinkLost s = .next (loseRear s) := by
  rw [exec_event (c := .rearLinkLost) rfl hp, if_pos hr]

end

/-! ### O47 -/

section
variable {s : State}

/-- Bytes of a row that completes no frame, or that goes on with a frame begun (R156). -/
theorem rearFrame_bytes (before after bytes : List Byte) (x : Byte) (hp : powered s = true) (row : bytes = before ++ x :: after) :
    exec (.damagedFrame before x after) s = exec (.rearFrame before x after) s ∧
    exec (.rearFrame before x after) s = .next (bytes.foldl hearRearByte (s.setPiu { s.piu with rlo := [] })) ∧
    (s.piu.begun = [] → (∀ b ∈ bytes, b ≠ 0xA7) →
      exec (.rearFrame before x after) s = .next (s.setPiu { s.piu with rlo := [] })) ∧
    (∀ noise rest, s.piu.begun = [] → (∀ b ∈ noise, b ≠ 0xA7) → rest.length < 66 → bytes = noise ++ 0xA7 :: rest →
      exec (.rearFrame before x after) s = .next (s.setPiu { s.piu with begun := 0xA7 :: rest, rlo := [] })) ∧
    (∀ pre, s.piu.begun = 0xA7 :: pre → pre.length < 66 →
      exec (.rearFrame before x after) s =
        exec (.rearFrame (0xA7 :: (pre ++ before)) x after) (s.setPiu { s.piu with begun := [] })) := by
  have takes : exec (.rearFrame before x after) s = .next (bytes.foldl hearRearByte (beforeRow s)) := row ▸ rearFrame_takes hp
  refine ⟨?_, takes, fun hb hn => ?_, fun noise rest hb hn hl hrow => ?_, fun pre hb hl => ?_⟩
  · rw [rearFrame_takes hp]
    exact exec_event (c := .damagedFrame before x after) rfl hp
  · rw [takes, hunt_noise (beforeRow s) bytes hb hn]
    rfl
  · rw [takes, hrow, List.foldl_append, hunt_noise (beforeRow s) noise hb hn, hunt_begin (beforeRow s) rest hb hl]
    rfl
  · rw [rearFrame_takes hp, rearFrame_takes (by exact hp), hearRear_begun s pre _ hb hl, List.cons_append, List.append_assoc]

end

/-- Settles O47. -/
theorem rearFramesAreAnswered : Obligations.RearFramesAreAnswered := by
  unfold Obligations.RearFramesAreAnswered
  refine ⟨fun s before after bytes x hp row => rearFrame_bytes before after bytes x hp row,
    fun s c k block _ hb hl => ⟨hunt_frame s c k block hb hl, (takeRearFrame_begun c k block s).trans hb⟩,
    fun s before after noise more x c k block hp hb hn hm hl row => ?frames, fun s hp hr => ?lost⟩
  case frames =>
    have takes := rearFrame_one hp hb hn hm hl row
    have valid (hk : rearCheckOk c block k = true) :
        exec (.rearFrame before x after) s = .next (takeValidFrame c block (beforeRow s)) :=
      takes.trans (congrArg _ (takeRearFrame_valid hk))
    have damaged (hk : rearCheckOk c block k = false) :
        exec (.damagedFrame before x after) s = .next (takeDamagedFrame block (beforeRow s)) :=
      ((rearFrame_bytes before after _ x hp rfl).1.trans takes).trans (congrArg _ (takeRearFrame_damaged hk))
    obtain ⟨step, back, call, slip⟩ := takeValidFrame_step c block (beforeRow s)
    have step' : IntercomOnly s (takeValidFrame c block (beforeRow s)) := ((IntercomOnly.refl s).setPiu _).trans step
    refine ⟨takes, fun hk hh hph hrun => ?quiet, fun hk hh hfull ho => ?overrun, fun hk hh hph => ?held,
      fun hk hr hph => ?silent, fun hk hr hph => ?answered⟩
    case quiet =>
      have up : loopUpRun (loopCode c) (beforeRow s) = _ := loopUpRun_running (by exact hh) (by exact hph)
      have down : loopDownRun (loopCode c) (beforeRow s) = _ := loopDownRun_eq
      obtain ⟨n, piu⟩ := takeValidFrame_quiet (s := beforeRow s) c block (by exact hh) (by exact hph)
        (loopUpRun_below (by exact hrun.imp_right And.left)) (loopDownRun_below (by exact hrun.imp_right And.right))
      rw [replyControl_down, up, down] at piu
      obtain ⟨k', reply⟩ := rearFrameBytes_eq ((if 0 < s.piu.loopDown then 0x20 else 0) ||| (if frontToRearOpen s then 1 else 0))
        (if s.piu.loop = .rearRemote ∨ s.piu.loop = .dual then block
          else if s.piu.loop = .frontLocal then silence
          else if frontToRearOpen s then s.piu.f2r.read.block
          else silence)
      refine ⟨_, k', valid hk, ?_⟩
      generalize takeValidFrame c block (beforeRow s) = t at piu step' back call
      have rlo := congrArg Piu.rlo piu
      refine ⟨piu ▸ rfl, piu ▸ rfl, piu ▸ rfl, piu ▸ rfl, piu ▸ rfl, piu ▸ rfl, piu ▸ rfl, piu ▸ rfl, piu ▸ rfl, piu ▸ rfl,
        rlo.trans (congrArg (fun f => [f]) reply), fun f hf => ?_,
        fun he => ⟨fun hr => step'.told (back hr) he, fun hc hl => step'.told (call hc hl) he⟩,
        step'.fen, step'.sau, step'.miu, step'.vbu, step'.outsideKept⟩
      rw [rlo] at hf
      rw [List.mem_singleton.1 hf, rearFrameBytes_sum]
    case overrun =>
      obtain ⟨blocks, level, slips, slipped⟩ := arrive_full block hfull ho
      have r2f := (takeValidFrame_kept c block (s := beforeRow s)).2.trans (if_neg (by exact hh ▸ Bool.false_ne_true))
      exact ⟨_, valid hk, r2f ▸ blocks, r2f ▸ level, r2f ▸ slips, step'.told (slip hh slipped)⟩
    case held =>
      obtain ⟨n, u, d, l, r, k, m, e, b, coded⟩ := codedFrame_piu c block (beforeRow s)
      obtain ⟨rearUp, r2f⟩ := takeValidFrame_kept c block (s := beforeRow s)
      have reply := rearReply_held block (s := codedFrame c block (beforeRow s)) (by rw [coded]; exact hh)
      rw [coded, ← takeValidFrame_eq] at reply
      have f2r : (takeValidFrame c block (beforeRow s)).piu.f2r = s.piu.f2r := by rw [reply]; rfl
      have rlo := congrArg Piu.rlo reply
      exact ⟨_, _, _, valid hk, rearUp, r2f.trans (if_pos hh), f2r, rlo⟩
    case silent =>
      rw [damaged hk, takeDamagedFrame_lost block (by exact hr) (by exact hph ▸ TestPhase.noConfusion)]
      rfl
    case answered =>
      have reply := takeDamagedFrame_up (s := beforeRow s) block (by exact hr) (by exact hph ▸ TestPhase.noConfusion)
      obtain ⟨f, l, ph, g, i, o, piu⟩ := rearReply_piu block
        ((beforeRow s).setPiu { (beforeRow s).piu with damaged := satAdd max16 (beforeRow s).piu.damaged 1 })
      obtain ⟨d, b, rlo⟩ := rearReply_rlo block
        ((beforeRow s).setPiu { (beforeRow s).piu with damaged := satAdd max16 (beforeRow s).piu.damaged 1 })
      have fen := (rearReply_step block
        ((beforeRow s).setPiu { (beforeRow s).piu with damaged := satAdd max16 (beforeRow s).piu.damaged 1 })).fen
      refine ⟨_, (damaged hk).trans (congrArg _ reply), ?_⟩
      generalize rearReply block _ = t at piu rlo fen
      exact ⟨piu ▸ rfl, piu ▸ rfl, piu ▸ rfl, piu ▸ rfl, piu ▸ hr, ⟨d, b, _, rlo⟩, fen⟩
  case lost =>
    refine ⟨fun hl hph => ?quietly, ?any⟩
    case quietly =>
      rw [rearLinkLost_takes hp hr, loseRear_quiet hl hph]
      rfl
    case any =>
      obtain ⟨down, lost⟩ := rearDown_step s
      obtain ⟨unlooped, off⟩ := loseLoop_step (rearDown s)
      obtain ⟨unsynced, sync⟩ := loseSync_step (loseLoop (rearDown s))
      obtain ⟨q, piu⟩ := loseSync_piu (loseLoop (rearDown s))
      rw [loseLoop_piu (rearDown s)] at piu sync
      have step := (down.trans unlooped).trans unsynced
      refine ⟨_, rearLinkLost_takes hp hr, ?_⟩
      rw [loseRear_eq]
      generalize loseSync (loseLoop (rearDown s)) = t at piu step sync unsynced
      exact ⟨piu ▸ rfl, piu ▸ rfl, piu ▸ rfl, piu ▸ rfl, piu ▸ rfl, piu ▸ rfl, fun reg errors hph hc => (sync reg errors hph hc).1,
        fun he => ⟨step.told (unsynced.noted (unlooped.noted lost)) he, fun hl hrem => step.told (unsynced.noted (off hl hrem)) he,
          fun reg errors hph hc => step.told (sync reg errors hph hc).2 he⟩, step.fen, step.sau⟩

end Sys2Proof.Machine

/-! ## The rear frames at their bounds (R168 to R171) -/

namespace Sys2Proof.Machine

/-! ### The frame that completes a run (R168) -/

section
variable (block : Block) (s : State)

/-- The checker and the reply leave the loop and its runs as they are. -/
theorem replied_loops : (rearReply block (takeChecked block s)).piu.loop = s.piu.loop ∧
    (rearReply block (takeChecked block s)).piu.loopRemote = s.piu.loopRemote ∧
    (rearReply block (takeChecked block s)).piu.upRun = s.piu.upRun ∧
    (rearReply block (takeChecked block s)).piu.downRun = s.piu.downRun := by
  obtain ⟨k, m, e, b, checked⟩ := takeChecked_piu block s
  obtain ⟨f, ld, ph, g, i, o, replied⟩ := rearReply_piu block (takeChecked block s)
  rw [replied, checked]
  exact ⟨rfl, rfl, rfl, rfl⟩

variable {s} (c : Byte)

theorem takeValidFrame_loopOn (ha : s.piu.autoLoop = true) (hh : s.piu.held = false) (ho : occupied s = false)
    (hl : s.piu.loop = .none) (hp : s.piu.phase = .none) (hu : s.piu.upRun = 24) (hc : loopCode c = 1) :
    (takeValidFrame c block s).piu.loop = .rearRemote ∧ (takeValidFrame c block s).piu.loopRemote = true ∧
    (takeValidFrame c block s).piu.upRun = 0 ∧ Noted 5 (takeValidFrame c block s) := by
  have run : 25 ≤ loopUpRun (loopCode c) (heardFrame c block s) := by
    rw [loopUpRun_heard, loopUpRun_running hh hp, if_pos ⟨ha, ho, hl, hc⟩, hu]
  have coded := (takeLoopCode_eq (loopCode c) (heardFrame c block s)).trans (if_pos run)
  obtain ⟨loop, remote, up, _⟩ := replied_loops block (takeLoopCode (loopCode c) (heardFrame c block s))
  have told : Noted 5 (takeLoopCode (loopCode c) (heardFrame c block s)) := by
    rw [coded]
    exact noted_raise (r := .remoteLoopOn) rfl _
  refine ⟨loop.trans ?_, remote.trans ?_, up.trans ?_, ((takeChecked_step block _).trans (rearReply_step block _)).noted told⟩ <;>
    rw [coded] <;> rfl

theorem takeValidFrame_loopOff (ha : s.piu.autoLoop = true) (hl : s.piu.loop ≠ .none) (hr : s.piu.loopRemote = true)
    (hd : s.piu.downRun = 24) (hc : loopCode c = 2) : (takeValidFrame c block s).piu.loop = .none ∧
    (takeValidFrame c block s).piu.downRun = 0 ∧ Noted 6 (takeValidFrame c block s) := by
  have noUp : ¬ 25 ≤ loopUpRun (loopCode c) (heardFrame c block s) := by
    rw [loopUpRun_heard, loopUpRun, hc, if_neg (by simp)]
    decide
  have run : 25 ≤ loopDownRun (loopCode c) (heardFrame c block s) := by
    rw [loopDownRun_heard, loopDownRun_eq, if_pos ⟨ha, hl, hr, hc⟩, hd]
  have coded := ((takeLoopCode_eq (loopCode c) (heardFrame c block s)).trans (if_neg noUp)).trans (if_pos run)
  obtain ⟨loop, _, _, down⟩ := replied_loops block (takeLoopCode (loopCode c) (heardFrame c block s))
  have told : Noted 6 (takeLoopCode (loopCode c) (heardFrame c block s)) := by
    rw [coded]
    exact noted_raise (r := .remoteLoopOff) rfl _
  refine ⟨loop.trans ?_, down.trans ?_, ((takeChecked_step block _).trans (rearReply_step block _)).noted told⟩ <;>
    rw [coded] <;> rfl

end

/-! ### A frame in the link test (R169, R171) -/

section
variable (c : Byte) (block : Block) {s : State}

theorem codedFrame_gate : frontToRearOpen (codedFrame c block s) = frontToRearOpen s := by
  obtain ⟨n, u, d, l, r, k, m, e, b, coded⟩ := codedFrame_piu c block s
  rw [frontToRearOpen, coded]
  rfl

theorem takeValidFrame_announce {n : Nat} (hh : s.piu.held = false) (hp : s.piu.phase = .announce n) :
    (takeValidFrame c block s).piu.phase = (if n + 1 ≥ 25 then .running else .announce (n + 1)) ∧
    (takeValidFrame c block s).piu.gen = s.piu.gen ∧ (takeValidFrame c block s).piu.checker = s.piu.checker ∧
    (takeValidFrame c block s).piu.rlo =
      s.piu.rlo ++ [rearFrameBytes (0x10 ||| (if frontToRearOpen s then 1 else 0)) silence] := by
  obtain ⟨m, heard⟩ := heardFrame_piu c block s
  obtain ⟨u, d, l, r, coded⟩ := takeLoopCode_piu (loopCode c) (heardFrame c block s)
  rw [heard] at coded
  have idle : codedFrame c block s = takeLoopCode (loopCode c) (heardFrame c block s) :=
    takeChecked_idle (by rw [coded]; exact hp ▸ TestPhase.noConfusion)
  rw [← idle] at coded
  have reply := rearReply_announce block (s := codedFrame c block s) (n := n) (by rw [coded]; exact hh) (by rw [coded]; exact hp)
  rw [codedFrame_gate, coded] at reply
  rw [takeValidFrame_eq, reply]
  exact ⟨rfl, rfl, rfl, rfl⟩

theorem takeValidFrame_running (hh : s.piu.held = false) (hp : s.piu.phase = .running) :
    (takeValidFrame c block s).piu.phase = .running ∧ (takeValidFrame c block s).piu.insertion = false ∧
    (takeValidFrame c block s).piu.gen = (genSamples 32 s.piu.gen).2 ∧
    (takeValidFrame c block s).piu.rlo = s.piu.rlo ++ [rearFrameBytes (if frontToRearOpen s then 1 else 0)
      (if s.piu.insertion then (genSamples 32 s.piu.gen).1.modifyHead (· ^^^ 0x8000) else (genSamples 32 s.piu.gen).1)] := by
  have control (speaking : Bool) : replyControl 0 speaking = if speaking then 1 else 0 := by cases speaking <;> rfl
  obtain ⟨n, u, d, l, r, k, m, e, b, coded⟩ := codedFrame_piu c block s
  have held : (codedFrame c block s).piu.held = false := by rw [coded]; exact hh
  have phase : (codedFrame c block s).piu.phase = .running := by rw [coded]; exact hp
  have gen : (codedFrame c block s).piu.gen = s.piu.gen := by rw [coded]
  have insertion : (codedFrame c block s).piu.insertion = s.piu.insertion := by rw [coded]
  have rlo : (codedFrame c block s).piu.rlo = s.piu.rlo := by rw [coded]
  have reply := rearReply_running block held phase
  rw [codedFrame_gate, control, gen, insertion, rlo] at reply
  generalize genSamples 32 s.piu.gen = w at reply ⊢
  rw [takeValidFrame_eq, reply]
  exact ⟨phase, rfl, rfl, rfl⟩

end

/-! ### The comparison of every frame while the test is RUNNING (R170) -/

/-- What the checker of a link test writes. -/
def Piu.compared (p : Piu) : Checker × Nat × Nat × Nat := (p.checker, p.checked, p.errored, p.bitErrors)

theorem Piu.compared_eq_iff {p : Piu} {k : Checker} {n e b : Nat} :
    p.compared = (k, n, e, b) ↔ p.checker = k ∧ p.checked = n ∧ p.errored = e ∧ p.bitErrors = b := by
  simp [Piu.compared]

section
variable (c k : Byte) (block : Block) (s : State)

theorem rearReply_compared : (rearReply block s).piu.compared = s.piu.compared := by
  obtain ⟨f, ld, ph, g, i, o, replied⟩ := rearReply_piu block s
  rw [replied]
  rfl

/-- The checker takes the block of every frame, valid or damaged, and nothing else of the frame changes the comparison. -/
theorem takeRearFrame_checks : ∃ u, IntercomOnly s u ∧ u.piu.phase = s.piu.phase ∧ u.piu.compared = s.piu.compared ∧
    IntercomOnly (takeChecked block u) (takeRearFrame c block k s) ∧
    (takeRearFrame c block k s).piu.compared = (takeChecked block u).piu.compared := by
  cases h : rearCheckOk c block k with
  | true =>
    obtain ⟨n, heard⟩ := heardFrame_piu c block s
    obtain ⟨u, d, l, r, coded⟩ := takeLoopCode_piu (loopCode c) (heardFrame c block s)
    rw [heard] at coded
    rw [takeRearFrame_valid h]
    refine ⟨takeLoopCode (loopCode c) (heardFrame c block s), (heardFrame_step c block s).1.trans (takeLoopCode_step _ _),
      ?_, ?_, rearReply_step block _, rearReply_compared block _⟩
    · rw [coded]
    · rw [coded]; rfl
  | false =>
    rw [takeRearFrame_damaged h, takeDamagedFrame]
    refine ⟨s.setPiu { s.piu with damaged := satAdd max16 s.piu.damaged 1 }, (IntercomOnly.refl s).setPiu _, rfl, rfl, ?_⟩
    dsimp only
    split
    · exact ⟨rearReply_step block _, rearReply_compared block _⟩
    · exact ⟨.refl _, rfl⟩

end

/-- Settles O48. -/
theorem rearFramesAtTheirBounds : Obligations.RearFramesAtTheirBounds := by
  unfold Obligations.RearFramesAtTheirBounds
  intro s before after noise more x c k block hp hb hn hm hl row
  have takes := rearFrame_one hp hb hn hm hl row
  have valid (hk : rearCheckOk c block k = true) :
      exec (.rearFrame before x after) s = .next (takeValidFrame c block (beforeRow s)) :=
    takes.trans (congrArg _ (takeRearFrame_valid hk))
  have named {change : Piu → Piu → Bool} := rearFrameIf_one (change := change) hb hn hm hl row
  have step : IntercomOnly s (takeValidFrame c block (beforeRow s)) :=
    ((IntercomOnly.refl s).setPiu _).trans (takeValidFrame_step c block (beforeRow s)).1
  obtain ⟨u, reaches, phase, comparison, rest, compared⟩ := takeRearFrame_checks c k block (beforeRow s)
  have whole : IntercomOnly s (takeRearFrame c block k (beforeRow s)) :=
    (((IntercomOnly.refl s).setPiu _).trans reaches).trans ((takeChecked_step block u).trans rest)
  refine ⟨fun hk ha hh ho hloop hph hu hc => ?on, fun hk ha hloop hr hd hc => ?off, fun n hk hh hph hlt => ?announce,
    fun hk hh hph => ?last, fun hk hh hph => ?running, fun reg bits r hph hc hr => ?search, fun reg errors r hph hc hr => ?sync⟩
  case on =>
    obtain ⟨loop, remote, up, told⟩ := takeValidFrame_loopOn (s := beforeRow s) block c ha hh ho hloop hph hu hc
    refine ⟨_, ?_, valid hk, loop, remote, up, step.told told, step.fen⟩
    rw [exec_event (c := .remoteLoopOn before x after) rfl hp, named, takeRearFrame_valid hk]
    rw [takeRearFrame_valid hk, loop, hloop]
    rfl
  case off =>
    obtain ⟨loop, down, told⟩ := takeValidFrame_loopOff (s := beforeRow s) block c ha hloop hr hd hc
    refine ⟨_, ?_, valid hk, loop, down, step.told told, step.fen⟩
    rw [exec_event (c := .remoteLoopOff before x after) rfl hp, named, takeRearFrame_valid hk]
    rw [takeRearFrame_valid hk, loop]
    exact Bool.and_eq_true_iff.2 ⟨bne_iff_ne.2 hloop, rfl⟩
  case announce =>
    obtain ⟨phase, gen, checker, rlo⟩ := takeValidFrame_announce (s := beforeRow s) c block hh hph
    exact ⟨_, _, valid hk, phase.trans (if_neg (by omega)), gen, checker, rlo, step.fen⟩
  case last =>
    obtain ⟨phase, gen, checker, rlo⟩ := takeValidFrame_announce (s := beforeRow s) c block hh hph
    refine ⟨_, _, ?_, valid hk, phase, rlo, step.fen⟩
    rw [exec_event (c := .announceEnd before x after) rfl hp, named, takeRearFrame_valid hk]
    rw [takeRearFrame_valid hk, phase, hph]
    rfl
  case running =>
    obtain ⟨phase, insertion, gen, rlo⟩ := takeValidFrame_running (s := beforeRow s) c block hh hph
    exact ⟨_, _, valid hk, phase, insertion, gen, rlo, step.fen⟩
  case search =>
    obtain ⟨checker, counts⟩ := Prod.mk.inj comparison
    have check := takeChecked_search (block := block) (phase.trans hph) (checker.trans hc) hr
    refine ⟨_, takes, ?_⟩
    generalize takeRearFrame c block k (beforeRow s) = t at rest compared whole
    obtain ⟨checker', counts'⟩ := Prod.mk.inj compared
    by_cases hm : r.matched = true ∧ r.ones = true
    · rw [if_pos (Bool.and_eq_true_iff.2 hm)] at check
      rw [check] at checker' counts' rest
      rw [if_pos hm]
      refine ⟨congrArg Prod.fst (counts'.trans counts), checker', fun he _ _ => whole.told ?_ he⟩
      exact rest.noted (noted_raise (r := .testSync) rfl _)
    · rw [if_neg (mt Bool.and_eq_true_iff.1 hm)] at check
      rw [check] at checker' counts'
      rw [if_neg hm]
      exact ⟨congrArg Prod.fst (counts'.trans counts), checker', fun _ h h' => absurd ⟨h, h'⟩ hm⟩
  case sync =>
    obtain ⟨checker, checked, errored, bitErrors⟩ := Piu.compared_eq_iff.1 comparison
    have check := takeChecked_sync (block := block) (phase.trans hph) (checker.trans hc) hr
    refine ⟨fun hd => ⟨_, takes, ?_⟩, fun hd he => ⟨_, takes, ?_⟩, fun hd he => ?_⟩
    · rw [if_pos hd] at check
      rw [check] at compared
      obtain ⟨checker', checked', errored', bitErrors'⟩ := Piu.compared_eq_iff.1 compared
      exact ⟨checker', checked'.trans (congrArg (satAdd max32 · 1) checked), errored'.trans errored, bitErrors'.trans bitErrors⟩
    · rw [if_neg hd, if_neg (by omega)] at check
      rw [check] at compared
      obtain ⟨checker', checked', errored', bitErrors'⟩ := Piu.compared_eq_iff.1 compared
      exact ⟨checker', checked'.trans (congrArg (satAdd max32 · 1) checked), errored'.trans (congrArg (satAdd max32 · 1) errored),
        bitErrors'.trans (congrArg (satAdd max32 · r.diff) bitErrors)⟩
    · rw [if_neg hd, if_pos (by omega)] at check
      rw [check] at compared rest
      obtain ⟨checker', checked', errored', bitErrors'⟩ := Piu.compared_eq_iff.1 compared
      refine ⟨_, ?_, takes, checker', checked'.trans (congrArg (satAdd max32 · 1) checked),
        errored'.trans (congrArg (satAdd max32 · 1) errored), bitErrors'.trans (congrArg (satAdd max32 · r.diff) bitErrors),
        whole.told (rest.noted (noted_raise (r := .testSyncLost) rfl _))⟩
      rw [exec_event (c := .testSyncLost before x after) rfl hp, named]
      rw [checker', hc]
      rfl

end Sys2Proof.Machine

/-! ## The requests of the intercom (R161, R166, R169, R171 to R176) -/

namespace Sys2Proof.Machine

section
variable {s : State}

theorem serveIcLoop_refused {n : Nat} {l : LoopSel} (hn : loopOf n = some l)
    (h : s.piu.held = true ∨ occupied s = true ∨ s.piu.phase ≠ .none) : serveIcLoop n s = refuse .notAllowed s := by
  simp only [serveIcLoop, hn]
  exact if_pos (h.imp_right (Or.imp_right active_of_ne))

theorem serveIcLoop_served {n : Nat} {l : LoopSel} (hn : loopOf n = some l) (hh : s.piu.held = false)
    (ho : occupied s = false) (hp : s.piu.phase = .none) : serveIcLoop n s = served [] (s.setPiu
      { s.piu with loop := l, loopRemote := false, upRun := 0, downRun := 0, chime := none }) := by
  simp [serveIcLoop, hn, hh, ho, hp, TestPhase.active]

theorem serveIcTestStart_refused (hp : s.piu.phase = .none)
    (h : s.piu.held = true ∨ occupied s = true ∨ s.piu.rearUp = false ∨ s.piu.loop ≠ .none) :
    serveIcTestStart s = refuse .notAllowed s := by
  rw [serveIcTestStart, hp]
  exact if_pos (h.imp_right (Or.imp_right (Or.imp_left fun h => h ▸ Bool.false_ne_true)))

theorem serveIcTestStart_served (hp : s.piu.phase = .none) (hh : s.piu.held = false) (ho : occupied s = false)
    (hr : s.piu.rearUp = true) (hl : s.piu.loop = .none) : serveIcTestStart s = served [] (s.setPiu
      { s.piu with
        checked := 0, errored := 0, bitErrors := 0, insertion := false, loopDown := 0, upRun := 0, downRun := 0
        chime := none, gen := 0x7FFF, checker := .search 0 0, phase := .announce 0 }) := by
  simp [serveIcTestStart, hp, hh, ho, hr, hl, TestPhase.active]

theorem endTest_active (hp : s.piu.phase ≠ .none) :
    endTest s.piu = { s.piu with phase := .none, insertion := false, loopDown := 25 } := if_pos (active_of_ne hp)

theorem endTest_floor (p : Piu) : (endTest p).floor = p.floor ∧ (endTest p).rearUp = p.rearUp := by
  unfold endTest
  split <;> exact ⟨rfl, rfl⟩

theorem serveIcTestStop_served (hp : s.piu.phase ≠ .none) : serveIcTestStop s = served
    (be 1 s.piu.phase.code ++ be 1 s.piu.checker.code ++ be 4 s.piu.checked ++ be 4 s.piu.errored
      ++ be 4 s.piu.bitErrors)
    (s.setPiu { s.piu with phase := .none, insertion := false, loopDown := 25 }) := by
  rw [serveIcTestStop, if_pos (active_of_ne hp), endTest_active hp]

theorem inactive_of_eq {p : TestPhase} (h : p = .none) : ¬ p.active = true := h ▸ Bool.false_ne_true

theorem serveIcConfig_held {d o a c : Nat} {x y : Bool} (hh : s.piu.held = true) (ha : flagOf a = some x)
    (hc : flagOf c = some y) : serveIcConfig d o a c s =
      if (d = 8 ∨ d = 16) ∧ within 2 (d - 2) o then
        served [] (s.setPiu { s.piu with depth := d, offset := o, autoLoop := x, chimeOn := y })
      else refuse .badField s := by
  simp only [serveIcConfig, hh, not_true_eq_false, if_false, ha, hc]

end

/-- Settles O49. -/
theorem intercomRequestsAreServed : Obligations.IntercomRequestsAreServed := by
  unfold Obligations.IntercomRequestsAreServed
  intro s hl
  refine ⟨fun n m hn => ?floor, fun n hn => ?noFloor, fun n hn => ?noLoop, fun n l hn hh ho hp => ?loop, fun n l hn h => ?loopRefused,
    fun hp => ?testBusy, fun hp h => ?testRefused, fun hp hh ho hr hloop => ?testStart, fun hp => ?testStop,
    fun hp => ⟨?noStop, ?noInsert⟩, fun hp hi => ?insert, fun hp hi => ?insertBusy, fun hh => ?heldAlready, fun hh => ?hold,
    fun d o a c x y hh ha hc => ⟨fun hd hlo hhi => ?config, fun hbad => ?configBad⟩, fun d o a c hh => ?configRefused,
    fun hh => ?release, fun hh => ?releaseRefused, request_listening hl⟩
  case floor => exact request_of_served hl (by simp only [serveIcFloor, hn])
  case noFloor => exact request_of_refuse hl (by simp only [serveIcFloor, hn])
  case noLoop => exact request_of_refuse hl (by simp only [serveIcLoop, hn])
  case loop => exact request_of_served hl (serveIcLoop_served hn hh ho hp)
  case loopRefused => exact request_of_refuse hl (serveIcLoop_refused hn h)
  case testBusy => exact request_of_refuse hl (if_pos (active_of_ne hp))
  case testRefused => exact request_of_refuse hl (serveIcTestStart_refused hp h)
  case testStart => exact request_of_served hl (serveIcTestStart_served hp hh ho hr hloop)
  case testStop => exact request_of_served hl (serveIcTestStop_served hp)
  case noStop => exact request_of_refuse hl (if_neg (inactive_of_eq hp))
  case noInsert => exact request_of_refuse hl (if_pos (inactive_of_eq hp))
  case insert =>
    refine request_of_served hl ?_
    rw [serveIcInsertError, if_neg (not_not_intro (active_of_ne hp)), if_neg (hi ▸ Bool.false_ne_true)]
  case insertBusy =>
    refine request_of_refuse hl ?_
    rw [serveIcInsertError, if_neg (not_not_intro (active_of_ne hp)), if_pos hi]
  case heldAlready => exact request_of_refuse hl (if_pos hh)
  case hold =>
    have holds : serveIcHold s = served [] (s.setPiu (holdIntercom s.piu)) := if_neg (hh ▸ Bool.false_ne_true)
    obtain ⟨floor, rearUp⟩ := endTest_floor s.piu
    exact ⟨_, request_of_served hl holds, rfl, rfl, rfl, rfl, rfl, rfl, rfl, rfl, rfl, rfl, rfl, endTest_phase s.piu, rfl, floor,
      rearUp, rfl, rfl, rfl, rfl, rfl⟩
  case config =>
    refine request_of_served hl ((serveIcConfig_held hh ha hc).trans (if_pos ⟨hd, ?_⟩))
    exact within_eq_true_iff.2 ⟨hlo, hhi⟩
  case configBad =>
    refine request_of_refuse hl ((serveIcConfig_held hh ha hc).trans (if_neg ?_))
    rintro ⟨hd, hw⟩
    obtain ⟨hlo, hhi⟩ := within_eq_true_iff.1 hw
    omega
  case configRefused => exact request_of_refuse hl (if_pos (hh ▸ Bool.false_ne_true))
  case release => exact request_of_served hl (if_pos hh)
  case releaseRefused => exact request_of_refuse hl (if_neg (hh ▸ Bool.false_ne_true))

end Sys2Proof.Machine

/-! ## Identification and RESTART (R191 to R193, R200) -/

namespace Sys2Proof.Machine

section
variable {s : State}

theorem serveRestart_refused (h : occupied s = true ∨ s.tlc.session ≠ none) : serveRestart s = refuse .notAllowed s :=
  if_pos (h.imp_right Option.isSome_iff_ne_none.2)

theorem serveRestart_served (ho : occupied s = false) (hs : s.tlc.session = none) :
    serveRestart s = served [] (s.setSmr { s.smr with restart := some s.cku.now }) := by
  simp [serveRestart, ho, hs]

theorem viewEntries_empty (h : occupied s = false) : viewEntries s.fen.slots = ⟨none, none, none, none⟩ := by
  obtain ⟨h0, h1, h2, h3⟩ : s.fen.slots.s0 = none ∧ s.fen.slots.s1 = none ∧ s.fen.slots.s2 = none ∧ s.fen.slots.s3 = none := by
    simpa [occupied, Four.toList] using h
  simp [viewEntries, Four.map, h0, h1, h2, h3]

/-- The console link after a RESTART: afresh, with the reason RESTARTED and the conditions that hold (R112, R78, R154, R193). -/
def restartedClc (times : StartTimes) (s : State) : Clc :=
  { rx := .hunt, bytes := [], buffer := none, answer := none, owed := [], gapCount := 0, overrunCount := 0
    lengthCount := 0, checkCount := 0, supplyDetail := some times
    notices := { NoticeSet.clear with
      supply := ⟨true, true, 4, false⟩
      alert := ⟨true, s.sgu.latch, 0, s.sgu.latch⟩
      displayStale := ⟨true, s.vbu.lagCount == 0, 0, s.vbu.lagCount == 0⟩
      authWaiting := ⟨true, authWaiting s, 0, authWaiting s⟩ } }

/-- The link-facing blocks that a RESTART starts afresh, before the intercom (R200). -/
def restartLinks (times : StartTimes) (s : State) : State :=
  startSign (startTlc (startView (reportWaiting (startClc .restarted times s))))

theorem restartBlocks_eq (taken : CalTime) (s : State) : restartBlocks taken s =
    (startIntercom (restartLinks ⟨some taken, s.cku.now⟩ s)).setSmr
      { (startIntercom (restartLinks ⟨some taken, s.cku.now⟩ s)).smr with
        supply := .up, restart := none, lastStart := ⟨.restart, ⟨some taken, s.cku.now⟩⟩ } := rfl

theorem restartLinks_clc (times : StartTimes) (s : State) : (restartLinks times s).clc = restartedClc times s := by
  simp only [restartLinks, startClc_restarted, reportWaiting_eq, startView_eq, startTlc, startSign_eq, State.setClc_clc,
    State.setTlc_clc, State.setClc_sgu, State.setTlc_sgu, State.setTransit_sgu, State.setVbu_sgu, State.setClc_vbu,
    NoticeSet.clear, Notice.clear, Notice.beginsIf_clear, restartedClc]
  rfl

theorem restartLinks_view (times : StartTimes) (s : State) : (restartLinks times s).vbu =
    { s.vbu with
      bufA := some ⟨(s.vbu.seq + 1) % 65536, s.cku.now, viewEntries s.fen.slots⟩, bufB := none, bufC := none
      write := .B, ready := .A, console := .C, seq := (s.vbu.seq + 1) % 65536, overwritten := 0 } ∧
    (restartLinks times s).transit.vbu = [] ∧ (restartLinks times s).tlc = ⟨false, 0, none, none, none, none⟩ := by
  simp only [restartLinks, startClc_restarted, reportWaiting_eq, startView_eq, startTlc, startSign_eq]
  exact ⟨rfl, rfl, rfl⟩

/-- The image that the sign is started with. -/
def startImage (s : State) : Roles Content :=
  desiredImage (s.setSgu { s.sgu with text := [], list := [], label := scheduledLabel s })

theorem restartLinks_sign (times : StartTimes) (s : State) :
    (restartLinks times s).sgu = { s.sgu with
      text := [], label := scheduledLabel s, desired := startImage s
      list := if s.sgu.roles.availability.isSome then freshList s.sgu.roles (startImage s) else [] } ∧
    (restartLinks times s).rbc = { s.rbc with
      acked := ⟨none, none, none, none⟩, modules := s.sgu.roles.map (fun a => a.map fun _ => .unknown)
      probe := ⟨none, none, none, none⟩
      controller := if s.sgu.roles.availability.isSome then .running else .held
      holdPending := false, phase := none, busBusy := true, idleOnly := true, arbLoss := 0, flight := none
      sending := [], arbWait := false, recovering := false, lampTries := 0, lampRetry := none, litLeft := 0
      lampCut := false } := by
  simp only [restartLinks, startClc_restarted, reportWaiting_eq, startView_eq, startTlc, startSign_eq]
  exact ⟨rfl, rfl⟩

theorem restartLinks_frame (times : StartTimes) (s : State) : (restartLinks times s).miu = s.miu ∧
    (restartLinks times s).cku = s.cku ∧ (restartLinks times s).tfs = s.tfs ∧ (restartLinks times s).fen = s.fen ∧
    (restartLinks times s).stu = s.stu ∧ (restartLinks times s).sau = s.sau ∧ (restartLinks times s).piu = s.piu ∧
    (restartLinks times s).smr = s.smr := by
  simp only [restartLinks, startClc_restarted, reportWaiting_eq, startView_eq, startTlc, startSign_eq]
  exact ⟨rfl, rfl, rfl, rfl, rfl, rfl, rfl, rfl⟩

theorem ite_isSome {α β : Type} (o : Option α) (x y : β) : (if o.isSome then x else y) = if o = none then y else x := by
  cases o <;> rfl

theorem restartStart_takes {taken : CalTime} (hr : s.smr.restart = some taken) (hs : s.smr.supply = .starting) :
    exec .restartStart s = .next (restartBlocks taken s) := by
  have hp : powered s = true := by simp [powered, hs]
  rw [exec_event (c := .restartStart) rfl hp, hr]
  exact congrArg _ (if_pos hs)

end

/-- Settles O51. -/
theorem identificationAndRestart : Obligations.IdentificationAndRestart := by
  unfold Obligations.IdentificationAndRestart
  refine fun s => ⟨fun hl => ⟨request_of_served hl rfl, request_of_served hl rfl,
    fun h => request_of_refuse hl (serveRestart_refused h), fun ho hs => request_of_served hl (serveRestart_served ho hs)⟩,
    fun taken hr hs => ?_⟩
  refine ⟨_, restartStart_takes hr hs, ?_⟩
  rw [restartBlocks_eq]
  have clc := restartLinks_clc ⟨some taken, s.cku.now⟩ s
  obtain ⟨view, transit, tlc⟩ := restartLinks_view ⟨some taken, s.cku.now⟩ s
  obtain ⟨sgu, rbc⟩ := restartLinks_sign ⟨some taken, s.cku.now⟩ s
  obtain ⟨miu, cku, tfs, fen, stu, sau, piu, smr⟩ := restartLinks_frame ⟨some taken, s.cku.now⟩ s
  rw [ite_isSome] at sgu rbc
  generalize restartLinks ⟨some taken, s.cku.now⟩ s = u at *
  have text : u.sgu.text = [] := sgu ▸ rfl
  have label : u.sgu.label = scheduledLabel s := sgu ▸ rfl
  have latch : u.sgu.latch = s.sgu.latch := sgu ▸ rfl
  have image : desiredImage ((startIntercom u).setSmr { (startIntercom u).smr with
      supply := .up, restart := none, lastStart := ⟨.restart, ⟨some taken, s.cku.now⟩⟩ }) = startImage s :=
    desiredImage_congr fen (congrArg Sau.shift sau) text label latch
  refine ⟨?_, clc, view, viewEntries_empty, transit, tlc, rbc, ?_, ?_, miu, cku, tfs, fen, stu, sau⟩
  · rw [← smr]; rfl
  · rw [image]; exact sgu
  · rw [← piu]; rfl

end Sys2Proof.Machine

/-! ## The console link: the receiver and the owed answers (R178 to R185) -/

namespace Sys2Proof.Machine

/-! ### The receiver, byte by byte -/

section
variable {s : State} {b : Byte}

theorem startByte_heard (e : Bool) (hp : powered s = true) (h : e = false ∨ s.clc.rx ≠ .hunt) :
    exec (.consoleStartByte ⟨b, e⟩) s = .next (receiveByte b s) := by
  have taken : ¬ (e = true ∧ s.clc.rx = .hunt) := fun ⟨he, hh⟩ => h.elim (fun h => Bool.false_ne_true (h.symm.trans he)) (· hh)
  exact congrArg _ ((if_neg taken).trans (hearByte_powered hp))

theorem startByte_discarded (h : s.clc.rx = .hunt) : exec (.consoleStartByte ⟨b, true⟩) s = .next s :=
  congrArg _ (if_pos ⟨rfl, h⟩)

theorem receiveByte_hunt (h : s.clc.rx = .hunt) :
    receiveByte b s = if b = 0xC5 then s.setClc { s.clc with rx := .length, bytes := [] } else s := by
  simp only [receiveByte, h]

theorem receiveByte_first (h : s.clc.rx = .length) (hb : s.clc.bytes = []) :
    receiveByte b s = s.setClc { s.clc with bytes := [b] } := by
  simp [receiveByte, h, hb]

/-- A length field of 0 or above 260, heard from HUNT on (R179). -/
theorem hear_length_fault {hi lo : Byte} (hp : powered s = true) (hh : s.clc.rx = .hunt)
    (hv : beValue [hi, lo] = 0 ∨ 260 < beValue [hi, lo]) :
    exec (.lengthFieldFault [0xC5, hi, lo]) s = .next (unlessRestarting (placeReject .lengthField none)
      (s.setClc { s.clc with bytes := [], lengthCount := satAdd max16 s.clc.lengthCount 1 })) := by
  have start : hearByte s 0xC5 = inFrame .length [] s := by
    rw [hearByte_powered hp, receiveByte_hunt hh]
    rfl
  have first : hearByte (inFrame .length [] s) hi = inFrame .length [hi] s := by
    rw [hearByte_powered (powered_inFrame hp), receiveByte_first rfl rfl]
    rfl
  have second : hearByte (inFrame .length [hi] s) lo = checkLength [hi, lo] (inFrame .length [hi] s) :=
    hearByte_powered (powered_inFrame hp)
  have fault : checkLength [hi, lo] (inFrame .length [hi] s) = unlessRestarting (placeReject .lengthField none)
      (s.setClc { s.clc with rx := .hunt, bytes := [], lengthCount := satAdd max16 s.clc.lengthCount 1 }) := if_pos hv
  change Host.Outcome.next (hearByte (hearByte (hearByte s 0xC5) hi) lo) = _
  rw [start, first, second, fault, ← hh]

/-- A gap at the receiver (R181). -/
theorem frameGap_takes (hp : powered s = true) : exec .frameGap s = .next (cutFrame s) :=
  event_powered hp

/-- A frame with a wrong CRC, heard from HUNT on (R180). -/
theorem hear_bad_check {kind x y : Byte} {body : List Byte} (hp : powered s = true) (hh : s.clc.rx = .hunt)
    (hb : body.length ≤ 259) (hc : [x, y] ≠ be 2 (crc16 (be 2 (body.length + 1) ++ kind :: body)).toNat) :
    exec (.consoleFrameComplete (0xC5 :: (be 2 (body.length + 1) ++ kind :: body ++ [x, y]))) s = .next
      (unlessRestarting (placeReject .check (some kind))
        (s.setClc { s.clc with bytes := [], checkCount := satAdd max16 s.clc.checkCount 1 })) :=
  congrArg _ ((hear_whole_frame s kind x y body hp hh hb).trans (if_neg hc))

end

/-! ### A reject placed (R182) -/

section
variable {s : State} (cause : RejectCause) (kind : Option Byte)

theorem placeReject_idle (h : answerIdle s.clc = true) : placeReject cause kind s = s.setAnswer (some (.reject cause kind)) :=
  if_pos h

theorem placeReject_owed (h : answerIdle s.clc = false) : placeReject cause kind s = s.setClc
    { s.clc with owed := if s.clc.owed.length < 4 then s.clc.owed ++ [.reject cause kind] else s.clc.owed } := by
  have owes : placeReject cause kind s = s.setClc (oweReject cause kind s.clc) := if_neg (h ▸ Bool.false_ne_true)
  rw [owes, oweReject]
  split <;> rfl

end

/-- Settles O52. -/
theorem receiverRejectsBadFrames : Obligations.ReceiverRejectsBadFrames := by
  unfold Obligations.ReceiverRejectsBadFrames
  intro s hp
  refine ⟨fun hh => ?start, fun b hh hb => ?other, fun b hh => startByte_discarded hh, fun b hh => ?framing,
    fun b e hr hb => ?first, fun hi lo hh hv hl hi => ?lengthIdle, fun hi lo hh hv hl hi => ?lengthOwed, fun hr => ?gap,
    fun hh => ?noGap, fun kind body x y hh hl hb hc => ⟨fun hi => ?checkIdle, fun hi => ?checkOwed⟩⟩
  case start =>
    rw [startByte_heard false hp (.inl rfl), receiveByte_hunt hh, if_pos rfl]
  case other => rw [startByte_heard false hp (.inl rfl), receiveByte_hunt hh, if_neg hb]
  case framing => rw [startByte_heard true hp (.inr hh), startByte_heard false hp (.inl rfl)]
  case first =>
    rw [startByte_heard e hp (.inr (hr ▸ RxState.noConfusion)), receiveByte_first hr hb]
  case lengthIdle =>
    rw [hear_length_fault hp hh hv, unlessRestarting_listening (by exact hl), placeReject_idle _ _ (by exact hi)]
    rfl
  case lengthOwed =>
    rw [hear_length_fault hp hh hv, unlessRestarting_listening (by exact hl), placeReject_owed _ _ (by exact hi)]
    rfl
  case gap =>
    rw [frameGap_takes hp, cutFrame_inside hr]
    rfl
  case noGap => rw [frameGap_takes hp, cutFrame_hunt hh]
  case checkIdle =>
    rw [hear_bad_check hp hh hb hc, unlessRestarting_listening (by exact hl), placeReject_idle _ _ (by exact hi)]
    rfl
  case checkOwed =>
    rw [hear_bad_check hp hh hb hc, unlessRestarting_listening (by exact hl), placeReject_owed _ _ (by exact hi)]
    rfl

/-! ### The end of an answer (R182, R183, R200) -/

section
variable {s : State}

theorem unknownReply_eq (kind : Byte) : unknownReply kind =
    if 1 ≤ kind.toNat ∧ kind.toNat ≤ 0x7E then .reply (kind + 0x80) .unknownRequest []
    else .reply 0xFE .unknownRequest [kind] := by
  unfold unknownReply
  simp only [within_eq_true_iff]

theorem endAnswer_restart {a : Answer} {taken : CalTime} (ha : s.clc.answer = some a) (hr : s.smr.restart = some taken) :
    endAnswer s = (s.setClc { s.clc with answer := none }).setSmr { s.smr with supply := .starting } := by
  simp only [endAnswer, ha, hr, Option.isNone_some, Option.isSome_some, if_true, Bool.false_eq_true, if_false]
  rfl

theorem endAnswer_owed {a : Answer} (ha : s.clc.answer = some a) (hr : s.smr.restart = none) :
    (s.clc.owed = [] → endAnswer s = s.setClc { s.clc with answer := none }) ∧
    (∀ cause kind rest, s.clc.owed = .reject cause kind :: rest →
      endAnswer s = s.setClc { s.clc with owed := rest, answer := some (.reject cause kind) }) ∧
    (∀ f rest, s.clc.owed = .request :: rest → s.clc.buffer = some f →
      endAnswer s = takeRequest f (s.setClc { s.clc with owed := rest, buffer := none, answer := none })) := by
  refine ⟨fun ho => ?_, fun cause kind rest ho => ?_, fun f rest ho hb => ?_⟩
  · simp only [endAnswer, ha, hr, ho, Option.isNone_some, Option.isSome_none, Bool.false_eq_true, if_false]
    rw [← ho]
    rfl
  · simp only [endAnswer, ha, hr, ho, Option.isNone_some, Option.isSome_none, Bool.false_eq_true, if_false]
  · simp only [endAnswer, ha, hr, ho, hb, Option.isNone_some, Option.isSome_none, Bool.false_eq_true, if_false]

theorem answerEnd_takes (hp : powered s = true) : exec .answerEnd s = .next (endAnswer s) :=
  event_powered hp

variable {f : Frame}

theorem takeRequest_request {c : Instr} {g : State → Served} (h : parseRequest f.kind f.body = .request c)
    (hg : ownerOf c = some g) : takeRequest f s = answerWith f.kind g s := by
  simp only [takeRequest, h, hg]

theorem takeRequest_unassigned (h : parseRequest f.kind f.body = .unassigned) : takeRequest f s = s.setAnswer (some
    (if 1 ≤ f.kind.toNat ∧ f.kind.toNat ≤ 0x7E then .reply (f.kind + 0x80) .unknownRequest []
      else .reply 0xFE .unknownRequest [f.kind])) := by
  simp only [takeRequest, h, unknownReply_eq]

theorem takeRequest_badLength (h : parseRequest f.kind f.body = .badLength) :
    takeRequest f s = s.setAnswer (some (.reply (f.kind + 0x80) .badLength [])) := by
  simp only [takeRequest, h]

theorem takeRequest_badCode (h : parseRequest f.kind f.body = .badCode) :
    takeRequest f s = s.setAnswer (some (.reply (f.kind + 0x80) .badField [])) := by
  simp only [takeRequest, h]

/-! ### A valid frame placed (R182) -/

theorem placeFrame_idle (h : answerIdle s.clc = true) : placeFrame f s = takeRequest f s := if_pos h

theorem placeFrame_buffered (h : answerIdle s.clc = false) (hb : s.clc.buffer = none) (hl : s.clc.owed.length < 4) :
    placeFrame f s = s.setClc { s.clc with buffer := some f, owed := s.clc.owed ++ [.request] } := by
  rw [placeFrame, if_neg (h ▸ Bool.false_ne_true), if_pos ⟨Option.isNone_iff_eq_none.2 hb, hl⟩]

theorem placeFrame_overrun (h : answerIdle s.clc = false) (hb : s.clc.buffer ≠ none ∨ 4 ≤ s.clc.owed.length) :
    placeFrame f s = raise .overrun (s.setClc (oweReject .overrun (some f.kind)
      { s.clc with overrunCount := satAdd max16 s.clc.overrunCount 1 })) := by
  have full : ¬ (s.clc.buffer.isNone = true ∧ s.clc.owed.length < 4) := fun ⟨hn, hl⟩ =>
    hb.elim (fun hb => hb (Option.isNone_iff_eq_none.1 hn)) fun h4 => by omega
  rw [placeFrame, if_neg (h ▸ Bool.false_ne_true), if_neg full]

end

/-- Settles O53. -/
theorem answersAndOwedAnswers : Obligations.AnswersAndOwedAnswers := by
  unfold Obligations.AnswersAndOwedAnswers
  intro s
  refine ⟨fun hp ha => ?none, fun a taken hp ha hr => ?restart, fun a hp ha hr => ?owed, fun hi lo hp hr hh hv => ?lengthFault,
    fun kind body x y hp hr hh hb => ?restarting, fun kind body hl hh hb => ?heard, fun f hi h4 => ?full, fun f => placeFrame_buffered,
    fun f hi hb hl => ?busy, fun kind hl hk => ?unknown⟩
  case none =>
    have stays : endAnswer s = s := if_pos (Option.isNone_iff_eq_none.2 ha)
    rw [answerEnd_takes hp, stays]
  case restart => rw [answerEnd_takes hp, endAnswer_restart ha hr]
  case owed =>
    obtain ⟨nothing, reject, request⟩ := endAnswer_owed ha hr
    rw [answerEnd_takes hp]
    refine ⟨fun ho => congrArg _ (nothing ho), fun cause kind rest ho => congrArg _ (reject cause kind rest ho),
      fun f rest c g ho hb hc hg => congrArg _ ((request f rest ho hb).trans (takeRequest_request hc hg)),
      fun f rest ho hb hc => congrArg _ ((request f rest ho hb).trans (takeRequest_unassigned hc)),
      fun f rest ho hb hc => congrArg _ ((request f rest ho hb).trans (takeRequest_badLength hc)),
      fun f rest ho hb hc => congrArg _ ((request f rest ho hb).trans (takeRequest_badCode hc))⟩
  case lengthFault =>
    rw [hear_length_fault hp hh hv, unlessRestarting_stopped (by exact listening_of_restart hr)]
    rfl
  case restarting =>
    refine congrArg _ ((hear_whole_frame s kind x y body hp hh hb).trans ?_)
    rw [unlessRestarting_stopped (by exact listening_of_restart hr), unlessRestarting_stopped (by exact listening_of_restart hr)]
    split <;> rfl
  case heard =>
    refine congrArg _ ((hear_linkFrame s kind body (powered_of_listening hl) hh hb).trans ?_)
    exact unlessRestarting_listening (by exact hl)
  case full =>
    rw [placeFrame_overrun hi (.inr h4), oweReject, if_neg (by exact Nat.not_lt.2 h4)]
    rfl
  case busy =>
    rw [placeFrame_overrun hi (.inl hb), oweReject, if_pos (by exact hl)]
    rfl
  case unknown =>
    rw [← unknownReply_eq]
    exact congrArg _ (if_pos ⟨hl, hk⟩)

end Sys2Proof.Machine

/-! ## A frame carries its request (R203, R204) -/

namespace Sys2Proof.Machine

/-- The one byte of a field. -/
def fieldByte (n : Nat) : Byte := BitVec.ofNat 8 n

@[simp] theorem fieldByte_toNat (a : Byte) : fieldByte a.toNat = a := by simp [fieldByte]

/-- The body of the frames that carry a request (Table 11-8). -/
def requestBody : Instr → List Byte
  | .setNoticeEnables e => be 2 e.toNat
  | .setTime y mo d h mi se =>
    [fieldByte (y - 2000), fieldByte mo, fieldByte d, fieldByte h, fieldByte mi, fieldByte se]
  | .calEnd n | .setK n | .shown n => be 2 n
  | .stageTariffSet n f a d w x p m label =>
    0 :: fieldByte n :: (be 4 f ++ be 2 a ++ be 2 d ++ be 2 w ++ [fieldByte x, fieldByte p] ++ be 4 m ++
      fieldByte label.length :: label)
  | .stageTariffRemove n => [1, fieldByte n]
  | .stageBandAdd days st t => 0 :: days :: (be 2 st ++ [fieldByte t])
  | .stageBandRemove days st => 1 :: days :: be 2 st
  | .stageHolidayAdd y m d => [0, fieldByte (y - 2000), fieldByte m, fieldByte d]
  | .stageHolidayRemove y m d => [1, fieldByte (y - 2000), fieldByte m, fieldByte d]
  | .stageExtraSet c k a m label =>
    0 :: fieldByte c :: fieldByte k :: (be 4 a ++ fieldByte m :: fieldByte label.length :: label)
  | .stageExtraRemove c => [1, fieldByte c]
  | .clearStagedEmpty => [0]
  | .clearStagedCopyActive => [1]
  | .readSet n | .hireStop n | .hireResume n | .hireAbandon n | .hireRead n | .presentCard n | .cancelPayment n | .authRead n
  | .deferredRead n | .summaryFetch n | .summaryRelease n | .icFloor n | .icLoop n => [fieldByte n]
  | .readTariff a b | .readBand a b | .readHoliday a b | .readExtra a b | .removeExtra a b | .deferredOutcome a b =>
    [fieldByte a, fieldByte b]
  | .setHireTariff a b c => [fieldByte a, fieldByte b, fieldByte c]
  | .hireStart a b c d | .signConfig a b c d | .icConfig a b c d => [fieldByte a, fieldByte b, fieldByte c, fieldByte d]
  | .addExtra s c a => fieldByte s :: fieldByte c :: be 4 a
  | .verdictApprove n a => fieldByte n :: 0 :: a.getD []
  | .verdictDecline n a => fieldByte n :: 1 :: a.getD []
  | .verdictDefer n a => fieldByte n :: 2 :: a.getD []
  | .cashTender s a => fieldByte s :: be 4 a
  | .accountTender s account a => fieldByte s :: fieldByte account.length :: (account ++ be 4 a)
  | .shiftOpen d seats sharing lag f c =>
    be 4 d ++ [fieldByte seats, fieldByte sharing, fieldByte lag] ++ be 4 f ++ be 4 c
  | .signText t => t
  | _ => []

/-- A parser keeps every byte of a body in the request that it makes. -/
def Faithful (p : List Byte → Parsed) : Prop := ∀ b c, p b = .request c → b = requestBody c

/-! ### The bodies of fixed fields -/

theorem faithful_body0 {c : Instr} (h : requestBody c = []) : Faithful (body0 c) := by
  intro b c' hb
  unfold body0 at hb
  split at hb <;> cases hb
  exact h.symm

theorem faithful_body1 {f : Nat → Instr} (h : ∀ n, requestBody (f n) = [fieldByte n]) : Faithful (body1 f) := by
  intro b c hb
  unfold body1 at hb
  split at hb <;> cases hb
  simp [h]

theorem faithful_body2 {f : Nat → Nat → Instr} (h : ∀ m n, requestBody (f m n) = [fieldByte m, fieldByte n]) :
    Faithful (body2 f) := by
  intro b c hb
  unfold body2 at hb
  split at hb <;> cases hb
  simp [h]

theorem faithful_bodyWord {f : Nat → Instr} (h : ∀ n, requestBody (f n) = be 2 n) : Faithful (bodyWord f) := by
  intro b c hb
  unfold bodyWord at hb
  split at hb <;> cases hb
  rw [h, be_two_beValue]

theorem faithful_body3 {f : Nat → Nat → Nat → Instr}
    (h : ∀ l m n, requestBody (f l m n) = [fieldByte l, fieldByte m, fieldByte n]) : Faithful (body3 f) := by
  intro b c hb
  unfold body3 at hb
  split at hb <;> cases hb
  simp [h]

theorem faithful_body4 {f : Nat → Nat → Nat → Nat → Instr}
    (h : ∀ k l m n, requestBody (f k l m n) = [fieldByte k, fieldByte l, fieldByte m, fieldByte n]) : Faithful (body4 f) := by
  intro b c hb
  unfold body4 at hb
  split at hb <;> cases hb
  simp [h]

/-! ### The bodies with fields of their own -/

theorem faithful_enables : Faithful parseEnables := by
  intro b c hb
  unfold parseEnables at hb
  split at hb <;> cases hb
  rename_i hi lo
  have word : beValue [hi, lo] < 65536 := by
    simp only [beValue, List.foldl_cons, List.foldl_nil]
    omega
  change _ = be 2 (BitVec.ofNat 16 (beValue [hi, lo])).toNat
  rw [BitVec.toNat_ofNat, Nat.mod_eq_of_lt word, be_two_beValue]

theorem faithful_setTime : Faithful parseSetTime := by
  intro b c hb
  unfold parseSetTime at hb
  split at hb <;> cases hb
  change _ = [fieldByte (2000 + _ - 2000), _, _, _, _, _]
  simp only [Nat.add_sub_cancel_left, fieldByte_toNat]

theorem faithful_stageTariff : Faithful parseStageTariff := by
  intro b c hb
  unfold parseStageTariff at hb
  split at hb
  case h_1 n f3 f2 f1 f0 a1 a0 d1 d0 w1 w0 x p m3 m2 m1 m0 count label =>
    split at hb <;> cases hb
    rename_i hl
    change _ = 0 :: fieldByte _ :: (be 4 _ ++ be 2 _ ++ be 2 _ ++ be 2 _ ++ [fieldByte _, fieldByte _] ++ be 4 _ ++
      fieldByte label.length :: label)
    rw [hl.2, be_four_beValue, be_four_beValue, be_two_beValue, be_two_beValue, be_two_beValue]
    simp only [fieldByte_toNat]
    rfl
  case h_3 =>
    cases hb
    change _ = [1, fieldByte _]
    rw [fieldByte_toNat]
    rfl
  case h_5 => split at hb <;> cases hb
  all_goals cases hb

theorem faithful_stageBand : Faithful parseStageBand := by
  intro b c hb
  unfold parseStageBand at hb
  split at hb
  case h_1 =>
    cases hb
    change _ = 0 :: _ :: (be 2 _ ++ [fieldByte _])
    rw [be_two_beValue, fieldByte_toNat]
    rfl
  case h_3 =>
    cases hb
    change _ = 1 :: _ :: be 2 _
    rw [be_two_beValue]
    rfl
  case h_5 => split at hb <;> cases hb
  all_goals cases hb

theorem faithful_stageHoliday : Faithful parseStageHoliday := by
  intro b c hb
  unfold parseStageHoliday at hb
  split at hb
  case h_2 => cases hb
  case h_1 a y m d =>
    split at hb
    case isTrue ha =>
      cases hb
      change _ = [0, fieldByte (2000 + _ - 2000), fieldByte _, fieldByte _]
      simp only [Nat.add_sub_cancel_left, fieldByte_toNat, ha]
    case isFalse =>
      split at hb <;> cases hb
      rename_i ha
      change _ = [1, fieldByte (2000 + _ - 2000), fieldByte _, fieldByte _]
      simp only [Nat.add_sub_cancel_left, fieldByte_toNat, ha]

theorem faithful_stageExtra : Faithful parseStageExtra := by
  intro b c hb
  unfold parseStageExtra at hb
  split at hb
  case h_1 c k a3 a2 a1 a0 m count label =>
    split at hb <;> cases hb
    rename_i hl
    change _ = 0 :: fieldByte _ :: fieldByte _ :: (be 4 _ ++ fieldByte _ :: fieldByte label.length :: label)
    rw [hl.2, be_four_beValue]
    simp only [fieldByte_toNat]
    rfl
  case h_3 =>
    cases hb
    change _ = [1, fieldByte _]
    rw [fieldByte_toNat]
    rfl
  case h_5 => split at hb <;> cases hb
  all_goals cases hb

theorem faithful_clearStaged : Faithful parseClearStaged := by
  intro b c hb
  unfold parseClearStaged at hb
  split at hb
  case h_2 => cases hb
  case h_1 a =>
    split at hb
    case isTrue ha => cases hb; exact congrArg (fun a => [a]) ha
    case isFalse =>
      split at hb <;> cases hb
      rename_i ha
      exact congrArg (fun a => [a]) ha

/-- An approval code is absent exactly when it has no bytes. -/
theorem approval_getD (rest : List Byte) : (if rest = [] then none else some rest).getD [] = rest := by
  split
  case isTrue h => exact h.symm
  case isFalse => rfl

theorem faithful_verdict : Faithful parseVerdict := by
  intro b c hb
  unfold parseVerdict at hb
  split at hb
  case h_2 => cases hb
  case h_1 id outcome rest =>
    split at hb
    case isFalse => cases hb
    case isTrue =>
      dsimp only at hb
      have body (o : Byte) (ho : outcome = o) : id :: outcome :: rest =
          fieldByte id.toNat :: o :: (if rest = [] then none else some rest).getD [] := by
        rw [fieldByte_toNat, ho, approval_getD]
      split at hb
      case isTrue ho => cases hb; exact body 0 ho
      case isFalse =>
        split at hb
        case isTrue ho => cases hb; exact body 1 ho
        case isFalse =>
          split at hb <;> cases hb
          rename_i ho
          exact body 2 ho

theorem faithful_accountTender : Faithful parseAccountTender := by
  intro b c hb
  unfold parseAccountTender at hb
  split at hb
  case h_2 => cases hb
  case h_1 slot count rest =>
    split at hb <;> cases hb
    rename_i hl
    have account : (rest.take count.toNat).length = count.toNat := List.length_take_of_le (by omega)
    obtain ⟨a, b, c, d, amount⟩ : ∃ a b c d, rest.drop count.toNat = [a, b, c, d] := by
      have four : (rest.drop count.toNat).length = 4 := by rw [List.length_drop]; omega
      match hd : rest.drop count.toNat, four with
      | [a, b, c, d], _ => exact ⟨a, b, c, d, rfl⟩
    change _ = fieldByte _ :: fieldByte (rest.take count.toNat).length :: (rest.take count.toNat ++ be 4 _)
    rw [account, amount, be_four_beValue, ← amount, List.take_append_drop, fieldByte_toNat, fieldByte_toNat]

theorem faithful_addExtra : Faithful parseAddExtra := by
  intro b c hb
  unfold parseAddExtra at hb
  split at hb <;> cases hb
  change _ = fieldByte _ :: fieldByte _ :: be 4 _
  rw [be_four_beValue, fieldByte_toNat, fieldByte_toNat]

theorem faithful_cashTender : Faithful parseCashTender := by
  intro b c hb
  unfold parseCashTender at hb
  split at hb <;> cases hb
  change _ = fieldByte _ :: be 4 _
  rw [be_four_beValue, fieldByte_toNat]

theorem faithful_shiftOpen : Faithful parseShiftOpen := by
  intro b c hb
  unfold parseShiftOpen at hb
  split at hb <;> cases hb
  change _ = be 4 _ ++ [fieldByte _, fieldByte _, fieldByte _] ++ be 4 _ ++ be 4 _
  rw [be_four_beValue, be_four_beValue, be_four_beValue, fieldByte_toNat, fieldByte_toNat, fieldByte_toNat]
  rfl

theorem faithful_signText : Faithful parseSignText := by
  intro b c hb
  unfold parseSignText at hb
  split at hb <;> cases hb
  rfl

/-! ### Every request (Table 11-8) -/

/-- A kind that is not assigned makes no request. -/
theorem faithful_unassigned : Faithful fun _ => .unassigned := fun _ _ h => nomatch h

theorem faithful_parseLow (kind : Nat) : Faithful (parseLow kind) := by
  intro b c hb
  unfold parseLow at hb
  split at hb
  exacts [faithful_body0 rfl _ _ hb, faithful_enables _ _ hb, faithful_body0 rfl _ _ hb, faithful_body0 rfl _ _ hb,
    faithful_body0 rfl _ _ hb, faithful_body0 rfl _ _ hb, faithful_setTime _ _ hb, faithful_body0 rfl _ _ hb,
    faithful_bodyWord (fun _ => rfl) _ _ hb, faithful_body0 rfl _ _ hb, faithful_bodyWord (fun _ => rfl) _ _ hb,
    faithful_stageTariff _ _ hb, faithful_stageBand _ _ hb, faithful_stageHoliday _ _ hb, faithful_stageExtra _ _ hb,
    faithful_clearStaged _ _ hb, faithful_body0 rfl _ _ hb, faithful_body2 (fun _ _ => rfl) _ _ hb,
    faithful_body2 (fun _ _ => rfl) _ _ hb, faithful_body2 (fun _ _ => rfl) _ _ hb, faithful_body2 (fun _ _ => rfl) _ _ hb,
    faithful_body1 (fun _ => rfl) _ _ hb, faithful_unassigned _ _ hb]

theorem faithful_parseMiddle (kind : Nat) : Faithful (parseMiddle kind) := by
  intro b c hb
  unfold parseMiddle at hb
  split at hb
  exacts [faithful_body4 (fun _ _ _ _ => rfl) _ _ hb, faithful_body1 (fun _ => rfl) _ _ hb,
    faithful_body1 (fun _ => rfl) _ _ hb, faithful_body3 (fun _ _ _ => rfl) _ _ hb, faithful_addExtra _ _ hb,
    faithful_body2 (fun _ _ => rfl) _ _ hb, faithful_body1 (fun _ => rfl) _ _ hb, faithful_body1 (fun _ => rfl) _ _ hb,
    faithful_body0 rfl _ _ hb, faithful_bodyWord (fun _ => rfl) _ _ hb, faithful_body1 (fun _ => rfl) _ _ hb,
    faithful_body1 (fun _ => rfl) _ _ hb, faithful_body0 rfl _ _ hb, faithful_verdict _ _ hb,
    faithful_body1 (fun _ => rfl) _ _ hb, faithful_cashTender _ _ hb, faithful_accountTender _ _ hb,
    faithful_body2 (fun _ _ => rfl) _ _ hb, faithful_body1 (fun _ => rfl) _ _ hb, faithful_shiftOpen _ _ hb,
    faithful_body0 rfl _ _ hb, faithful_body0 rfl _ _ hb, faithful_body0 rfl _ _ hb, faithful_body1 (fun _ => rfl) _ _ hb,
    faithful_body1 (fun _ => rfl) _ _ hb, faithful_body0 rfl _ _ hb, faithful_unassigned _ _ hb]

theorem faithful_parseHigh (kind : Nat) : Faithful (parseHigh kind) := by
  intro b c hb
  unfold parseHigh at hb
  split at hb
  exacts [faithful_body4 (fun _ _ _ _ => rfl) _ _ hb, faithful_signText _ _ hb, faithful_body0 rfl _ _ hb,
    faithful_body0 rfl _ _ hb, faithful_body0 rfl _ _ hb, faithful_body0 rfl _ _ hb, faithful_body0 rfl _ _ hb,
    faithful_body1 (fun _ => rfl) _ _ hb, faithful_body1 (fun _ => rfl) _ _ hb, faithful_body0 rfl _ _ hb,
    faithful_body0 rfl _ _ hb, faithful_body0 rfl _ _ hb, faithful_body0 rfl _ _ hb,
    faithful_body4 (fun _ _ _ _ => rfl) _ _ hb, faithful_body0 rfl _ _ hb, faithful_body0 rfl _ _ hb,
    faithful_unassigned _ _ hb]

theorem parseRequest_body (kind : Byte) : Faithful (parseRequest kind) := by
  intro b c hb
  unfold parseRequest at hb
  dsimp only at hb
  split at hb
  · exact faithful_parseLow _ _ _ hb
  · split at hb
    · exact faithful_parseMiddle _ _ _ hb
    · exact faithful_parseHigh _ _ _ hb

/-- Settles O54. -/
theorem framesCarryTheirRequests : Obligations.FramesCarryTheirRequests := by
  unfold Obligations.FramesCarryTheirRequests
  refine ⟨fun kind kind' body body' c h h' => ⟨?same, ?bytes⟩, fun kind body c owner s hl hh hi hb hc ho => ?runs⟩
  case same => exact BitVec.eq_of_toNat_eq ((parseRequest_kind h).trans (parseRequest_kind h').symm)
  case bytes => exact (parseRequest_body kind body c h).trans (parseRequest_body kind' body' c h').symm
  case runs =>
    have listens : listening (s.setClc { s.clc with bytes := [] }) = true := hl
    have kindOf : BitVec.ofNat 8 (requestKind c) = kind := by rw [← parseRequest_kind hc, BitVec.ofNat_toNat, BitVec.setWidth_eq]
    have runs : exec c (s.setClc { s.clc with bytes := [] }) =
        .next (answerWith kind owner (s.setClc { s.clc with bytes := [] })) := by
      rw [exec_of_ownerOf _ ho, kindOf, request, if_pos listens]
    refine ⟨?_, runs⟩
    rw [runs]
    refine congrArg _ ((hear_linkFrame s kind body (powered_of_listening hl) hh hb).trans ?_)
    rw [unlessRestarting_listening listens, placeFrame_idle (by exact hi), takeRequest_request hc ho]

end Sys2Proof.Machine

/-! ## Supply failure (R4, R40, R188, R194, R195) -/

namespace Sys2Proof.Machine

/-! ### What the taking of the events on their way leaves -/

/-- What the events that the FEN and the SAU take leave: the other blocks, and of the SAU all but the live record of a shift
that runs. -/
structure Delivers (s t : State) : Prop where
  miu : t.miu = s.miu
  cku : t.cku = s.cku
  tfs : t.tfs = s.tfs
  stu : t.stu = s.stu
  smr : t.smr = s.smr
  account : t.sau = { s.sau with live := t.sau.live }
  closed : s.sau.shift = .closed → t.sau = s.sau

namespace Delivers

variable {s t u : State}

theorem refl (s : State) : Delivers s s := ⟨rfl, rfl, rfl, rfl, rfl, rfl, fun _ => rfl⟩

theorem trans (h : Delivers s t) (h' : Delivers t u) : Delivers s u where
  miu := h'.miu.trans h.miu
  cku := h'.cku.trans h.cku
  tfs := h'.tfs.trans h.tfs
  stu := h'.stu.trans h.stu
  smr := h'.smr.trans h.smr
  account := by rw [h'.account, h.account]
  closed hc := (h'.closed (by rw [h.account]; exact hc)).trans (h.closed hc)

theorem foldl {α : Type} {f : State → α → State} (h : ∀ t x, Delivers t (f t x)) (l : List α) (s : State) :
    Delivers s (l.foldl f s) := by
  induction l generalizing s with
  | nil => exact .refl s
  | cons x l ih => exact (h s x).trans (ih _)

end Delivers

section
variable (s : State)

theorem staled_account (u : Sau) : u.staled = { u with live := u.staled.live } ∧ (u.shift = .closed → u.staled = u) := by
  unfold Sau.staled
  split
  case isTrue => exact ⟨rfl, fun _ => rfl⟩
  case isFalse h => exact ⟨rfl, fun hc => absurd hc h⟩

theorem delivers_applyReport (r : SecondReport) : Delivers s (applyReport r s) := by
  have account : (applyReport r s).sau = s.sau ∨ (applyReport r s).sau = s.sau.staled := by
    obtain ⟨_, quiet, onset⟩ := applyReport_drains r s
    rcases Nat.eq_zero_or_pos (applyReport r s).vbu.lagCount with h0 | h
    · rcases Nat.eq_zero_or_pos s.vbu.lagCount with hs | hs
      · exact .inl (quiet (.inr hs)).1
      · exact .inr (onset hs h0).1
    · exact .inl (quiet (.inl h)).1
  obtain ⟨staled, closed⟩ := staled_account s.sau
  have keeps : (applyReport r s).miu = s.miu ∧ (applyReport r s).cku = s.cku ∧ (applyReport r s).tfs = s.tfs ∧
      (applyReport r s).stu = s.stu ∧ (applyReport r s).smr = s.smr := by
    by_cases hm : r.mark = .normal
    · obtain ⟨k, _⟩ := reportAfter_keeps (shared := 2 ≤ runningCount s.fen.slots) (metres := r.metres) (s := s) 4
      rw [applyReport_normal hm rfl rfl]
      exact ⟨k.miu, k.outside.1, k.tfs, k.stu, k.outside.2.2⟩
    · rw [applyReport, if_neg hm]
      exact ⟨rfl, rfl, rfl, rfl, rfl⟩
  obtain ⟨miu, cku, tfs, stu, smr⟩ := keeps
  refine ⟨miu, cku, tfs, stu, smr, ?_, fun hc => ?_⟩
  · rcases account with h | h
    · rw [h]
    · rw [h, ← staled]
  · exact account.elim id fun h => h.trans (closed hc)

theorem delivers_applyConfirmation (entries : Four (Option ViewEntry)) : Delivers s (applyConfirmation entries s) := by
  obtain ⟨f, c, e⟩ := confirmSlots_frame entries Slot.all (s, false)
  unfold applyConfirmation
  dsimp only
  rw [e]
  split <;> exact ⟨rfl, rfl, rfl, rfl, rfl, rfl, fun _ => rfl⟩

theorem delivers_deliverFen (e : FenEvent) : Delivers s (deliverFen s e) := by
  cases e with
  | report r => exact delivers_applyReport s r
  | bandChange n => exact ⟨rfl, rfl, rfl, rfl, rfl, rfl, fun _ => rfl⟩
  | confirm entries => exact delivers_applyConfirmation s entries

/-- A report taken by the SAU reaches the SAU alone. -/
theorem postReport_eq (r : SecondReport) : postReport r s = s.setSau (postReport r s).sau := by
  unfold postReport post
  split <;> rfl

theorem delivers_postReport (r : SecondReport) : Delivers s (postReport r s) := by
  unfold postReport post
  split
  case isTrue => exact .refl s
  case isFalse h => exact ⟨rfl, rfl, rfl, rfl, rfl, rfl, fun hc => absurd hc h⟩

theorem postReports_eq (l : List SecondReport) :
    l.foldl (fun t r => postReport r t) s = s.setSau (l.foldl (fun t r => postReport r t) s).sau := by
  induction l generalizing s with
  | nil => rfl
  | cons r l ih =>
    rw [List.foldl_cons, ih, postReport_eq]
    rfl

variable {s} {t : State}

/-- What the SAU makes of a report depends on the SAU and the hires. -/
theorem postReport_congr (r : SecondReport) (hf : t.fen = s.fen) (hs : t.sau = s.sau) :
    (postReport r t).sau = (postReport r s).sau := by
  unfold postReport post
  rw [hs, hf]
  split
  · exact hs
  · rfl

theorem postReports_congr (l : List SecondReport) (hf : t.fen = s.fen) (hs : t.sau = s.sau) :
    (l.foldl (fun u r => postReport r u) t).sau = (l.foldl (fun u r => postReport r u) s).sau := by
  induction l generalizing s t with
  | nil => exact hs
  | cons r l ih =>
    refine ih ?_ (postReport_congr r hf hs)
    have kept (u : State) : (postReport r u).fen = u.fen := by rw [postReport_eq]; rfl
    exact ((kept t).trans hf).trans (kept s).symm

/-- What it makes of a partial report depends on the SAU alone. -/
theorem postReport_part_congr {r : SecondReport} (hm : r.mark ≠ .normal) (hs : t.sau = s.sau) :
    (postReport r t).sau = (postReport r s).sau := by
  unfold postReport post
  simp only [if_pos hm, hs]
  split
  · exact hs
  · rfl

theorem postReport_part {r : SecondReport} (hm : r.mark ≠ .normal) (hs : s.sau.shift ≠ .closed) :
    (postReport r s).sau = { s.sau with
      live := { s.sau.live with
        shiftDistance := satAdd maxDistance s.sau.live.shiftDistance r.metres
        rejectedDistance := satAdd maxDistance s.sau.live.rejectedDistance r.metres } } := by
  rw [postReport, post_running hs]
  simp only [if_pos hm]
  rfl

end

/-! ### The open second closed, and the blocks stopped -/

section
variable (s : State)

theorem delivers_drainEvents : Delivers s (drainEvents s) := by
  have moves (u : State) (x : Transit) : Delivers u (u.setTransit x) := ⟨rfl, rfl, rfl, rfl, rfl, rfl, fun _ => rfl⟩
  unfold drainEvents
  dsimp only
  exact ((moves s _).trans (Delivers.foldl delivers_deliverFen _ _)).trans
    ((moves _ _).trans (Delivers.foldl (fun t r => delivers_postReport t r) _ _))

theorem drainEvents_quiet (h : s.transit.fen = []) : (drainEvents s).fen = s.fen ∧
    (drainEvents s).sau = (s.transit.sau.foldl (fun u r => postReport r u) s).sau := by
  rw [drainEvents, h]
  refine ⟨?_, postReports_congr _ rfl rfl⟩
  rw [postReports_eq]
  rfl

/-- The MIU after the open second has been closed. -/
def closedSecond : State := s.setMiu { s.miu with secondCount := 0, calActive := false, rawPulses := 0 }

theorem partialReport_mark : (partialReport s).mark ≠ .normal := nofun

theorem closePartial_eq : closePartial s =
    (suspendRunning (closedSecond s)).setSau (postReport (partialReport s) (suspendRunning (closedSecond s))).sau := by
  rw [closePartial, ← postReport_eq, applyReport, if_neg (partialReport_mark _)]
  rfl

theorem closePartial_sau : (closePartial s).sau = (postReport (partialReport s) s).sau := by
  rw [closePartial_eq]
  exact postReport_part_congr (partialReport_mark _) rfl

theorem closePartial_hire (k : Slot) : (closePartial s).hire k = (s.hire k).map fun h =>
    if h.state = .running then { h with state := .suspended } else h := by
  rw [closePartial_eq]
  exact suspendRunning_hire _ k

end

/-- The part after its last second, before the blocks stop. -/
def lastSecond (s : State) : State := closePartial (drainEvents s)

theorem lastSecond_kept (s : State) :
    (lastSecond s).miu = { s.miu with secondCount := 0, calActive := false, rawPulses := 0 } ∧
    (lastSecond s).cku = s.cku ∧ (lastSecond s).tfs = s.tfs ∧ (lastSecond s).stu = s.stu ∧ (lastSecond s).smr = s.smr ∧
    (lastSecond s).sau = { s.sau with live := (lastSecond s).sau.live } ∧
    (s.sau.shift = .closed → (lastSecond s).sau = s.sau) := by
  obtain ⟨miu, cku, tfs, stu, smr, account, closed⟩ := delivers_drainEvents s
  have posted := delivers_postReport (drainEvents s) (partialReport (drainEvents s))
  have sau : (lastSecond s).sau = (postReport (partialReport (drainEvents s)) (drainEvents s)).sau := closePartial_sau _
  have rest : (lastSecond s).miu = { (drainEvents s).miu with secondCount := 0, calActive := false, rawPulses := 0 } ∧
      (lastSecond s).cku = (drainEvents s).cku ∧ (lastSecond s).tfs = (drainEvents s).tfs ∧
      (lastSecond s).stu = (drainEvents s).stu ∧ (lastSecond s).smr = (drainEvents s).smr := by
    rw [lastSecond, closePartial_eq]
    exact ⟨rfl, rfl, rfl, rfl, rfl⟩
  obtain ⟨miu', cku', tfs', stu', smr'⟩ := rest
  refine ⟨by rw [miu', miu], cku'.trans cku, tfs'.trans tfs, stu'.trans stu, smr'.trans smr, ?_, fun hc => ?_⟩
  · rw [sau, posted.account, account]
  · rw [sau, posted.closed (by rw [account]; exact hc), closed hc]

/-- The shift record at a failure with no event on its way to the FEN (R4, R119). -/
theorem lastSecond_quiet {s : State} (h : s.transit.fen = []) :
    (∀ k, (lastSecond s).hire k = (s.hire k).map fun h => if h.state = .running then { h with state := .suspended } else h) ∧
    (lastSecond s).sau = (postReport ⟨s.cku.now, s.miu.secondCount, .part⟩
      (s.transit.sau.foldl (fun u r => postReport r u) s)).sau := by
  obtain ⟨fen, sau⟩ := drainEvents_quiet s h
  obtain ⟨miu, cku, _, _, _, _, _⟩ := delivers_drainEvents s
  refine ⟨fun k => ?_, ?_⟩
  · rw [lastSecond, closePartial_hire, State.hire, fen]
    rfl
  · have report : partialReport (drainEvents s) = ⟨s.cku.now, s.miu.secondCount, .part⟩ := by rw [partialReport, cku, miu]
    rw [lastSecond, closePartial_sau, report]
    exact postReport_part_congr (partialReport_mark s) sau

/-- A supply failure: the blocks as they stop, the mark of the store and the levels. -/
theorem loseSupply_eq (l : SupplyLoss) (s : State) : loseSupply l s = setPins l.pins
    ((dropWorking (lastSecond s)).setSmr (markStore l.markWritten (lastSecond s).cku.now (lastSecond s).smr)) := rfl

theorem markStore_kept (written : Bool) (now : CalTime) (m : Smr) : (markStore written now m).supply = .down ∧
    (markStore written now m).lastStart = m.lastStart ∧ (markStore written now m).restart = none ∧
    (written = true → (markStore written now m).closing = true ∧ (markStore written now m).agrees = true ∧
      (markStore written now m).loss = if m.closing then m.loss else some now) ∧
    (written = false → (markStore written now m).closing = m.closing ∧ (markStore written now m).agrees = m.agrees ∧
      (markStore written now m).loss = m.loss) := by
  cases written
  · exact ⟨rfl, rfl, rfl, nofun, fun _ => ⟨rfl, rfl, rfl⟩⟩
  · exact ⟨rfl, rfl, rfl, fun _ => ⟨rfl, rfl, rfl⟩, nofun⟩

theorem attnLow_loseSupply (l : SupplyLoss) (s : State) : attnLow (loseSupply l s) =
    (l.pins.resetHigh && l.pins.present && NoticeKind.all.any fun k => ((loseSupply l s).clc.notices.get k).raised) := rfl

/-- No hire is RUNNING once the open second is closed (R40). -/
theorem lastSecond_hireState (s : State) (k : Slot) : (lastSecond s).hireState k ≠ some .running := by
  rw [State.hireState, lastSecond, closePartial_hire]
  cases (drainEvents s).hire k with
  | none => nofun
  | some h =>
    by_cases hr : h.state = .running
    · simp [hr]
    · simp [hr]

/-- Settles O55. -/
theorem supplyFailureStopsTheBlocks : Obligations.SupplyFailureStopsTheBlocks := by
  unfold Obligations.SupplyFailureStopsTheBlocks
  refine ⟨fun s written pins hd => ?down, fun s written pins hp => ?runs⟩
  case down =>
    have stopped : powered s = false := by simp [powered, hd]
    exact congrArg _ (if_neg (stopped ▸ Bool.false_ne_true))
  case runs =>
    have takes : exec (.supplyFailure ⟨written, pins⟩) s = .next (loseSupply ⟨written, pins⟩ s) := congrArg _ (if_pos hp)
    have notices (hf : s.transit.fen = []) : (loseSupply ⟨written, pins⟩ s).clc.notices = s.clc.notices :=
      failSupply_notices written s hf
    have attn := attnLow_loseSupply ⟨written, pins⟩ s
    obtain ⟨miu, cku, tfs, stu, smr, account, closed⟩ := lastSecond_kept s
    have quiet := lastSecond_quiet (s := s)
    have suspended := lastSecond_hireState s
    have eq := loseSupply_eq ⟨written, pins⟩ s
    rw [smr, cku] at eq
    generalize lastSecond s = u at *
    generalize loseSupply ⟨written, pins⟩ s = t at *
    obtain ⟨supply, lastStart, restart, wrote, unwritten⟩ := markStore_kept written s.cku.now s.smr
    have sau : t.sau = u.sau := eq ▸ rfl
    have hire (k : Slot) : t.hire k = u.hire k := eq ▸ rfl
    refine ⟨t, takes, eq ▸ supply, eq ▸ rfl, fun h => ?attnReleased, fun hf => ⟨notices hf, fun hpins => ?attnKept⟩, ?suspended,
      fun hf k h hk => ?hires, ?miu, ?cku, ?tfs, ?stu, eq ▸ rfl, eq ▸ rfl, eq ▸ rfl, eq ▸ rfl, eq ▸ rfl, eq ▸ rfl, eq ▸ rfl,
      eq ▸ rfl, eq ▸ rfl, eq ▸ rfl, eq ▸ rfl, eq ▸ rfl, eq ▸ rfl, eq ▸ rfl, eq ▸ lastStart, eq ▸ restart,
      fun hw => eq ▸ wrote hw, fun hw => eq ▸ unwritten hw, ?shift, ?number, ?slot0, ?slot1, fun hc => sau.trans (closed hc),
      fun hf hs hc => ?posted, fun hf => sau.trans (quiet hf).2⟩
    case attnReleased =>
      rw [attn]
      rcases h with h | h
      · rw [h]; rfl
      · rw [h, Bool.and_false, Bool.false_and]
    case attnKept => rw [attn, notices hf, hpins]; rfl
    case suspended =>
      intro k h
      rw [State.hireState, hire] at h
      exact suspended k h
    case hires => rw [hire, (quiet hf).1, hk]; rfl
    case miu => exact (show t.miu = u.miu from eq ▸ rfl).trans miu
    case cku => exact (show t.cku = u.cku from eq ▸ rfl).trans cku
    case tfs => exact (show t.tfs = u.tfs from eq ▸ rfl).trans tfs
    case stu => exact (show t.stu = u.stu from eq ▸ rfl).trans stu
    case shift => rw [sau, account]
    case number => rw [sau, account]
    case slot0 => rw [sau, account]
    case slot1 => rw [sau, account]
    case posted =>
      have posts := (quiet hf).2
      rw [hs] at posts
      exact (sau.trans posts).trans (postReport_part nofun hc)

end Sys2Proof.Machine

/-! ## Supply return: the restore start (R196 to R198) -/

namespace Sys2Proof.Machine

/-! ### The steps of a restore start, each as one update -/

section
variable (times : StartTimes) (s : State)

/-- The shift record with an interruption posted (R124). -/
def interrupted (times : StartTimes) (u : Sau) : Sau :=
  if u.shift = .closed then u
  else { u with
    live := { u.live with
      interruptions := satAdd max16 u.live.interruptions 1
      interruptedSecs := satAdd max32 u.live.interruptedSecs
        ((times.loss.map fun l => times.ret.seconds - l.seconds).getD 0) } }

theorem postInterruption_eq : postInterruption times.loss times.ret s = s.setSau (interrupted times s.sau) := by
  by_cases h : s.sau.shift = .closed
  · rw [interrupted, if_pos h, postInterruption, post_closed h]
    rfl
  · rw [interrupted, if_neg h, postInterruption, post_running h]

theorem beginStart_restore : beginStart true times s =
    (s.setSmr { s.smr with closing := false, lastStart := ⟨.restore, times⟩ }).setSau (interrupted times s.sau) := by
  simp only [beginStart, if_true]
  exact postInterruption_eq times _

theorem startClc_restored : startClc .restored times s = s.setClc
    { rx := .hunt, bytes := [], buffer := none, answer := none, owed := [], gapCount := 0, overrunCount := 0
      lengthCount := 0, checkCount := 0, supplyDetail := some times
      notices := { NoticeSet.clear with supply := ⟨true, true, 1, false⟩ } } := by
  have record : Notice.addReason ⟨true, false, 0, false⟩ 0 = ⟨true, true, 1, false⟩ := by decide
  rw [← record]
  rfl

theorem startTfs_restore : startTfs true s = s.setTfs
    { s.tfs with
      staged := .empty, point := presentPoint s, scheduled := scheduledAt (activeSet s) (presentPoint s) } := rfl

/-- The queue with every deadline anew (R112). -/
def renewed (queue : List AuthEntry) : List AuthEntry := queue.map fun e => { e with deadline := 120000 }

/-- The part before its hires are looked at in a restore start. -/
def restoredRecords : State :=
  startTfs true (startTlc (startStu true (startMiu true (startClc .restored times (beginStart true times s)))))

theorem restoredRecords_blocks : (restoredRecords times s).cku = s.cku ∧
    (restoredRecords times s).smr = { s.smr with closing := false, lastStart := ⟨.restore, times⟩ } ∧
    (restoredRecords times s).miu = { s.miu with
      remainder := 0, secondCount := 0, calActive := false, rawPulses := 0, sealOpen := true, sealTaken := false } ∧
    (restoredRecords times s).stu = { s.stu with queue := renewed s.stu.queue } ∧
    (restoredRecords times s).tlc = ⟨false, 0, none, none, none, none⟩ ∧
    (restoredRecords times s).sau = interrupted times s.sau ∧
    (restoredRecords times s).tfs = { s.tfs with
      staged := .empty, point := presentPoint s, scheduled := scheduledAt (activeSet s) (presentPoint s) } ∧
    (restoredRecords times s).fen = s.fen ∧ (restoredRecords times s).vbu = s.vbu ∧ (restoredRecords times s).sgu = s.sgu ∧
    (restoredRecords times s).rbc = s.rbc ∧ (restoredRecords times s).piu = s.piu := by
  simp only [restoredRecords, startTfs_restore, startTlc, startStu, startMiu, if_true, reportWaiting_eq, startClc_restored,
    beginStart_restore]
  exact ⟨rfl, rfl, rfl, rfl, rfl, rfl, rfl, rfl, rfl, rfl, rfl, rfl⟩

theorem restoredRecords_notices : (restoredRecords times s).clc.supplyDetail = some times ∧
    (restoredRecords times s).clc.notices.supply = ⟨true, true, 1, false⟩ ∧
    (∀ k, (restoredRecords times s).clc.notices.get (hireKind k) = .clear) := by
  simp only [restoredRecords, startTfs_restore, startTlc, startStu, startMiu, if_true, reportWaiting_eq, startClc_restored,
    beginStart_restore]
  exact ⟨rfl, rfl, fun k => by cases k <;> rfl⟩

end

/-! ### The PAYING hires (R63) -/

/-- Has a hire an entry that can still pay it? -/
def paidBy (queue : List AuthEntry) (k : Slot) (h : Hire) : Bool :=
  queue.any fun e => e.slot == k && e.hire == h.number && e.live

/-- What the start makes of a slot: a PAYING hire without such an entry is DUE again. -/
def releasedPart (queue : List AuthEntry) (k : Slot) (p : Option Hire × Notice) : Option Hire × Notice :=
  match p.1 with
  | some h =>
    if h.state = .paying ∧ ¬ paidBy queue k h then (some { h with state := .due }, p.2.addReason 3) else p
  | none => p

section
variable {s t u : State}

theorem releasePaying_some {k : Slot} {h : Hire} (he : s.hire k = some h) : releasePaying s k =
    if h.state = .paying ∧ ¬ paidBy s.stu.queue k h then raise (.paymentFailed k) (s.setHire k (some { h with state := .due }))
    else s := by
  rw [releasePaying, he]
  rfl

theorem releasePaying_none {k : Slot} (he : s.hire k = none) : releasePaying s k = s := by
  rw [releasePaying, he]

/-- What the look at the PAYING hires leaves. -/
structure Releases (s t : State) : Prop where
  rest : t = (s.setFen t.fen).setClc t.clc
  table : t.fen = { s.fen with slots := t.fen.slots }
  link : t.clc = { s.clc with notices := t.clc.notices }
  supply : t.clc.notices.supply = s.clc.notices.supply

theorem Releases.refl (s : State) : Releases s s := ⟨rfl, rfl, rfl, rfl⟩

theorem Releases.trans (h : Releases s t) (h' : Releases t u) : Releases s u where
  rest := by rw [h'.rest, h.rest]; rfl
  table := by rw [h'.table, h.table]
  link := by rw [h'.link, h.link]
  supply := h'.supply.trans h.supply

theorem releasePaying_releases (s : State) (k : Slot) : Releases s (releasePaying s k) := by
  cases he : s.hire k with
  | none => rw [releasePaying_none he]; exact .refl s
  | some h =>
    rw [releasePaying_some he]
    split
    · refine ⟨rfl, rfl, rfl, ?_⟩
      exact raise_get_ne (.paymentFailed k) _ (k := .supply) (by cases k <;> decide)
    · exact .refl s

theorem foldl_releases (l : List Slot) (s : State) : Releases s (l.foldl releasePaying s) := by
  induction l generalizing s with
  | nil => exact .refl s
  | cons k l ih => exact (releasePaying_releases s k).trans (ih _)

theorem releasePaying_slotPart (s : State) (k : Slot) :
    slotPart k (releasePaying s k) = releasedPart s.stu.queue k (slotPart k s) := by
  cases he : s.hire k with
  | none => simp only [releasePaying_none he, releasedPart, slotPart, he]
  | some h =>
    rw [releasePaying_some he]
    simp only [releasedPart, slotPart, he]
    split
    · exact Prod.ext (State.setHire_hire_same ..) (raise_get_kind (.paymentFailed k) _)
    · rw [he]

theorem releasePaying_slotPart_ne (s : State) {j k : Slot} (hj : j ≠ k) : slotPart k (releasePaying s j) = slotPart k s := by
  cases he : s.hire j with
  | none => rw [releasePaying_none he]
  | some h =>
    rw [releasePaying_some he]
    split
    · exact raise_setHire_slotPart_ne hj rfl _ s
    · rfl

/-- The start at one slot. -/
theorem startFen_slotPart (s : State) (k : Slot) : slotPart k (startFen true s) = releasedPart s.stu.queue k (slotPart k s) := by
  have queue (s : State) (j : Slot) : (releasePaying s j).stu = s.stu := by rw [(releasePaying_releases s j).rest]; rfl
  have all := foldl_at (f := releasePaying) (k := k) (l := Slot.all) (read := fun u : State => (u.stu.queue, slotPart k u))
    (g := fun x => (x.1, releasedPart x.1 k x.2))
    (fun u j hj => by rw [queue, releasePaying_slotPart_ne u hj]) (fun u => by rw [queue, releasePaying_slotPart])
    Slot.nodup_all k.mem_all s
  exact congrArg Prod.snd all

end

/-! ### The rest of a restore start -/

section
variable (times : StartTimes) (s : State)

/-- The steps of a restore start after the hires. -/
def restoredLinks (s : State) : State := endStart (sealStore true (startPiu true (startSgu true (startVbu true (refreshFen s)))))

theorem restoredLinks_blocks : (restoredLinks s).cku = s.cku ∧
    (restoredLinks s).smr = { s.smr with agrees := true, format := .own, supply := .up } ∧ (restoredLinks s).miu = s.miu ∧
    (restoredLinks s).stu = s.stu ∧ (restoredLinks s).tlc = s.tlc ∧ (restoredLinks s).sau = s.sau ∧
    (restoredLinks s).tfs = s.tfs ∧ (restoredLinks s).fen = (applyBandChange s.tfs.scheduled s).fen := by
  simp only [restoredLinks, startSgu, startVbu, if_true, startSign_eq, startView_eq]
  exact ⟨rfl, rfl, rfl, rfl, rfl, rfl, rfl, rfl⟩

theorem restoredLinks_links : (restoredLinks s).vbu.lagCount = s.vbu.lagCount ∧
    (restoredLinks s).vbu.lagLimit = s.vbu.lagLimit ∧ (restoredLinks s).vbu.overwritten = 0 ∧
    (restoredLinks s).sgu.roles = s.sgu.roles ∧ (restoredLinks s).sgu.latch = s.sgu.latch ∧ (restoredLinks s).sgu.text = [] ∧
    (restoredLinks s).piu.depth = s.piu.depth ∧ (restoredLinks s).piu.offset = s.piu.offset ∧
    (restoredLinks s).piu.floor = .driverPtt := by
  simp only [restoredLinks, startSgu, startVbu, if_true, startSign_eq, startView_eq]
  exact ⟨rfl, rfl, rfl, rfl, rfl, rfl, rfl, rfl, rfl⟩

theorem restoredLinks_notices : (restoredLinks s).clc.supplyDetail = s.clc.supplyDetail ∧
    (restoredLinks s).clc.notices.supply = s.clc.notices.supply ∧
    (∀ k, (restoredLinks s).clc.notices.get (hireKind k) = s.clc.notices.get (hireKind k)) := by
  simp only [restoredLinks, startSgu, startVbu, if_true, startSign_eq, startView_eq]
  exact ⟨rfl, rfl, fun k => by cases k <;> rfl⟩

/-- The steps of a restore start, in three parts. -/
theorem runSteps_restore : runSteps (startSteps true times) s = restoredLinks (startFen true (restoredRecords times s)) := by
  have stands (u : State) : startSau true u = u := rfl
  simp only [runSteps, startSteps, List.foldl_cons, List.foldl_nil, if_true, stands, restoredLinks, restoredRecords]

end

end Sys2Proof.Machine

/-! ## Supply return: what a restore start leaves (R63, R112, R124, R196 to R198) -/

namespace Sys2Proof.Machine

theorem Releases.blocks {s t : State} (h : Releases s t) : t.cku = s.cku ∧ t.smr = s.smr ∧ t.miu = s.miu ∧ t.stu = s.stu ∧
    t.tlc = s.tlc ∧ t.sau = s.sau ∧ t.tfs = s.tfs ∧ t.vbu = s.vbu ∧ t.sgu = s.sgu ∧ t.piu = s.piu := by
  rw [h.rest]
  exact ⟨rfl, rfl, rfl, rfl, rfl, rfl, rfl, rfl, rfl, rfl⟩

/-! ### The hires -/

section
variable {queue : List AuthEntry} {k : Slot} {h : Hire} {n : Notice}

theorem paidBy_renewed_iff : paidBy (renewed queue) k h = true ↔
    ∃ e ∈ queue, e.slot = k ∧ e.hire = h.number ∧ (e.state = .queued ∨ e.state = .handed) := by
  simp [paidBy, renewed, AuthEntry.live, and_assoc]

theorem releasedPart_kept (hs : h.state ≠ .paying ∨ paidBy queue k h = true) :
    releasedPart queue k (some h, n) = (some h, n) := by
  refine if_neg ?_
  rintro ⟨hp, hn⟩
  exact hs.elim (fun hs => hs hp) hn

theorem releasedPart_due (hs : h.state = .paying) (hq : ¬ paidBy queue k h = true) :
    releasedPart queue k (some h, n) = (some { h with state := .due }, n.addReason 3) := if_pos ⟨hs, hq⟩

/-- A schedule refresh at a hire. -/
def Hire.refreshed (m : Nat) (h : Hire) : Hire := if h.followsCalendar then h.follow m else h

theorem Hire.refreshed_other {m : Nat} (hs : h.state ≠ .running) (hs' : h.state ≠ .suspended) : h.refreshed m = h := by
  refine if_neg (mt Hire.followsCalendar_iff.1 ?_)
  rintro ⟨hr | hr, _⟩
  · exact hs hr
  · exact hs' hr

theorem Hire.refreshed_driving {m : Nat} (hs : h.state = .running ∨ h.state = .suspended) : h.refreshed m =
    if h.source = .schedule then { h with pending := if m = h.tariff then none else some m } else h := by
  by_cases hc : h.source = .schedule
  · rw [if_pos hc]
    exact if_pos (Hire.followsCalendar_iff.2 ⟨hs, hc⟩)
  · rw [if_neg hc]
    exact if_neg (mt Hire.followsCalendar_iff.1 fun h => hc h.2)

end

/-! ### The whole start -/

section
variable (times : StartTimes) (s : State)

/-- The part after a restore start. -/
def restored : State := restoredLinks (startFen true (restoredRecords times s))

theorem restored_blocks : (restored times s).cku = s.cku ∧
    (restored times s).smr = { s.smr with
      closing := false, lastStart := ⟨.restore, times⟩, agrees := true, format := .own, supply := .up } ∧
    (restored times s).miu = { s.miu with
      remainder := 0, secondCount := 0, calActive := false, rawPulses := 0, sealOpen := true, sealTaken := false } ∧
    (restored times s).stu = { s.stu with queue := renewed s.stu.queue } ∧
    (restored times s).tlc = ⟨false, 0, none, none, none, none⟩ ∧ (restored times s).sau = interrupted times s.sau ∧
    (restored times s).tfs = { s.tfs with
      staged := .empty, point := presentPoint s, scheduled := scheduledAt (activeSet s) (presentPoint s) } := by
  obtain ⟨cku, smr, miu, stu, tlc, sau, tfs, _⟩ := restoredRecords_blocks times s
  obtain ⟨cku', smr', miu', stu', tlc', sau', tfs', _⟩ := (foldl_releases Slot.all (restoredRecords times s)).blocks
  obtain ⟨cku'', smr'', miu'', stu'', tlc'', sau'', tfs'', _⟩ := restoredLinks_blocks (startFen true (restoredRecords times s))
  refine ⟨(cku''.trans cku').trans cku, ?_, (miu''.trans miu').trans miu, (stu''.trans stu').trans stu, (tlc''.trans tlc').trans tlc,
    (sau''.trans sau').trans sau, (tfs''.trans tfs').trans tfs⟩
  have before : (startFen true (restoredRecords times s)).smr = _ := smr'.trans smr
  rw [restored, smr'', before]

theorem restored_links : (restored times s).vbu.lagCount = s.vbu.lagCount ∧
    (restored times s).vbu.lagLimit = s.vbu.lagLimit ∧ (restored times s).vbu.overwritten = 0 ∧
    (restored times s).sgu.roles = s.sgu.roles ∧ (restored times s).sgu.latch = s.sgu.latch ∧ (restored times s).sgu.text = [] ∧
    (restored times s).piu.depth = s.piu.depth ∧ (restored times s).piu.offset = s.piu.offset ∧
    (restored times s).piu.floor = .driverPtt := by
  have links := restoredLinks_links (startFen true (restoredRecords times s))
  obtain ⟨_, _, _, _, _, _, _, _, vbu, sgu, _, piu⟩ := restoredRecords_blocks times s
  obtain ⟨_, _, _, _, _, _, _, vbu', sgu', piu'⟩ := (foldl_releases Slot.all (restoredRecords times s)).blocks
  have vbu : (startFen true (restoredRecords times s)).vbu = s.vbu := vbu'.trans vbu
  have sgu : (startFen true (restoredRecords times s)).sgu = s.sgu := sgu'.trans sgu
  have piu : (startFen true (restoredRecords times s)).piu = s.piu := piu'.trans piu
  rwa [vbu, sgu, piu] at links

theorem restored_supply : (restored times s).clc.supplyDetail = some times ∧
    (restored times s).clc.notices.supply = ⟨true, true, 1, false⟩ := by
  obtain ⟨detail, supply, _⟩ := restoredRecords_notices times s
  obtain ⟨detail', supply', _⟩ := restoredLinks_notices (startFen true (restoredRecords times s))
  obtain ⟨_, _, link, kept⟩ := foldl_releases Slot.all (restoredRecords times s)
  exact ⟨(detail'.trans (congrArg Clc.supplyDetail link)).trans detail, (supply'.trans kept).trans supply⟩

theorem restored_fen : (restored times s).fen.counter = s.fen.counter ∧ (restored times s).fen.seats = s.fen.seats ∧
    (restored times s).fen.sharing = s.fen.sharing := by
  obtain ⟨_, _, _, _, _, _, _, fen, _⟩ := restoredRecords_blocks times s
  obtain ⟨_, table, _, _⟩ := foldl_releases Slot.all (restoredRecords times s)
  obtain ⟨_, _, _, _, _, _, _, fen'⟩ := restoredLinks_blocks (startFen true (restoredRecords times s))
  have before : (startFen true (restoredRecords times s)).fen =
      { s.fen with slots := (startFen true (restoredRecords times s)).fen.slots } := by
    rw [← fen]
    exact table
  rw [restored, fen', applyBandChange, State.setFen_fen, before]
  exact ⟨rfl, rfl, rfl⟩

/-- A hire and its notice after a restore start. -/
theorem restored_slot (k : Slot) :
    (restored times s).hire k =
      (releasedPart (renewed s.stu.queue) k (s.hire k, .clear)).1.map (Hire.refreshed (restored times s).tfs.scheduled) ∧
    (restored times s).clc.notices.get (hireKind k) = (releasedPart (renewed s.stu.queue) k (s.hire k, .clear)).2 := by
  obtain ⟨_, _, _, stu, _, _, _, fen, _⟩ := restoredRecords_blocks times s
  obtain ⟨_, _, notice⟩ := restoredRecords_notices times s
  obtain ⟨_, _, _, _, _, _, tfs', fen'⟩ := restoredLinks_blocks (startFen true (restoredRecords times s))
  obtain ⟨_, _, notice'⟩ := restoredLinks_notices (startFen true (restoredRecords times s))
  have before : slotPart k (restoredRecords times s) = (s.hire k, .clear) :=
    Prod.ext (congrArg (fun f => f.slots.get k) fen) (notice k)
  have part := startFen_slotPart (restoredRecords times s) k
  rw [before, stu] at part
  refine ⟨?_, (notice' k).trans (congrArg Prod.snd part)⟩
  have hire : (restored times s).hire k =
      (applyBandChange (startFen true (restoredRecords times s)).tfs.scheduled (startFen true (restoredRecords times s))).hire k :=
    congrArg (fun f => f.slots.get k) fen'
  rw [hire, applyBandChange_hire, ← part, restored, tfs']
  rfl

end

/-! ### A supply return -/

theorem supplyReturn_takes {s : State} (damage : StoreDamage) (stopped : Bool) (cut : Option StartCut)
    (hs : s.smr.supply = .down) :
    exec (.supplyReturn damage stopped cut) s = .next (returnSupply damage stopped cut s) := congrArg _ (if_pos hs)

theorem storeStands_iff {m : Smr} : storeStands m = true ↔ m.closing = true ∧ m.format = .own ∧ m.agrees = true := by
  simp [storeStands, and_assoc]

theorem returnSupply_restore {s : State} (stopped : Bool)
    (h : s.smr.closing = true ∧ s.smr.format = .own ∧ s.smr.agrees = true) : returnSupply .intact stopped none s =
      restored ⟨s.smr.loss, (checkClock stopped s.cku).now⟩ (enterStart .intact stopped s) := by
  have stands : storeStands (enterStart .intact stopped s).smr = true := storeStands_iff.2 h
  unfold returnSupply
  dsimp only
  rw [stands, startTimes, if_pos rfl]
  exact runSteps_restore _ _

/-- What a restore start leaves, at the clock it finds. -/
theorem supplyReturn_restores {s : State} (stopped : Bool) {c : Cku} (hs : s.smr.supply = .down)
    (hc : c = checkClock stopped s.cku) (h : s.smr.closing = true ∧ s.smr.format = .own ∧ s.smr.agrees = true) :
    ∃ t, exec (.supplyReturn .intact stopped none) s = .next t ∧
      t = restored ⟨s.smr.loss, c.now⟩ ((s.setCku c).setSmr { s.smr with supply := .starting, pins := ⟨true, true⟩ }) := by
  refine ⟨_, (supplyReturn_takes .intact stopped none hs).trans (congrArg _ (returnSupply_restore stopped h)), ?_⟩
  rw [hc]
  rfl

end Sys2Proof.Machine

/-! ## Supply return: the blank start and a start that is cut (R195 to R199) -/

namespace Sys2Proof.Machine

/-! ### The blank start -/

theorem State.eq_of_blocks {s t : State} (clc : s.clc = t.clc) (miu : s.miu = t.miu) (cku : s.cku = t.cku) (tfs : s.tfs = t.tfs)
    (fen : s.fen = t.fen) (vbu : s.vbu = t.vbu) (stu : s.stu = t.stu) (tlc : s.tlc = t.tlc) (sau : s.sau = t.sau)
    (sgu : s.sgu = t.sgu) (rbc : s.rbc = t.rbc) (piu : s.piu = t.piu) (smr : s.smr = t.smr) (transit : s.transit = t.transit)
    (free : s.free = t.free) (pending : s.pending = t.pending) : s = t := by
  cases s
  cases t
  simp only [State.mk.injEq]
  exact ⟨clc, miu, cku, tfs, fen, vbu, stu, tlc, sau, sgu, rbc, piu, smr, transit, free, pending⟩

section
variable (times : StartTimes) (s : State)

theorem startClc_storeLost : startClc .storeLost times s = s.setClc
    { rx := .hunt, bytes := [], buffer := none, answer := none, owed := [], gapCount := 0, overrunCount := 0
      lengthCount := 0, checkCount := 0, supplyDetail := some times
      notices := { NoticeSet.clear with supply := ⟨true, true, 2, false⟩ } } := by
  have record : Notice.addReason ⟨true, false, 0, false⟩ 1 = ⟨true, true, 2, false⟩ := by decide
  rw [← record]
  rfl

/-- The part after the blocks of a blank start that keep records. -/
def blankRecords : State :=
  startSau false (refreshFen (startFen false (startTfs false (startTlc (startStu false (startMiu false
    (startClc .storeLost times (beginStart false times s))))))))

theorem blankRecords_blocks : (blankRecords times s).cku = s.cku ∧
    (blankRecords times s).smr = { s.smr with closing := false, format := .zero, lastStart := ⟨.blank, times⟩ } ∧
    (blankRecords times s).miu = State.reset.miu ∧ (blankRecords times s).stu = State.reset.stu ∧
    (blankRecords times s).tlc = State.reset.tlc ∧ (blankRecords times s).sau = State.reset.sau ∧
    (blankRecords times s).tfs = { State.reset.tfs with
      point := ⟨s.cku.now.date, s.cku.now.minuteOfDay, s.cku.now.date.weekday⟩ } ∧
    (blankRecords times s).fen = State.reset.fen ∧ (blankRecords times s).clc =
      { State.reset.clc with
        supplyDetail := some times
        notices := { NoticeSet.clear with supply := ⟨true, true, 2, false⟩ } } := by
  simp only [blankRecords, startSau, refreshFen, startFen, startTfs, startTlc, startStu, startMiu, startClc_storeLost, beginStart,
    Bool.false_eq_true, if_false]
  exact ⟨rfl, rfl, rfl, rfl, rfl, rfl, rfl, rfl, rfl⟩

theorem blankRecords_rest : (blankRecords times s).transit = s.transit ∧ (blankRecords times s).rbc = s.rbc ∧
    (blankRecords times s).free = s.free ∧ (blankRecords times s).pending = s.pending := by
  simp only [blankRecords, startSau, refreshFen, startFen, startTfs, startTlc, startStu, startMiu, startClc_storeLost, beginStart,
    Bool.false_eq_true, if_false]
  exact ⟨rfl, rfl, rfl, rfl⟩

/-- The steps of a blank start after its records. -/
def blankLinks (s : State) : State := endStart (sealStore false (startPiu false (startSgu false (startVbu false s))))

theorem runSteps_blank : runSteps (startSteps false times) s = blankLinks (blankRecords times s) := by
  simp only [runSteps, startSteps, List.foldl_cons, List.foldl_nil, Bool.false_eq_true, if_false, blankLinks, blankRecords]

/-- The links of a blank start. -/
theorem blankLinks_blocks : (blankLinks s).cku = s.cku ∧
    (blankLinks s).smr = { s.smr with agrees := true, loss := none, format := .own, supply := .up } ∧
    (blankLinks s).miu = s.miu ∧ (blankLinks s).stu = s.stu ∧ (blankLinks s).tlc = s.tlc ∧ (blankLinks s).sau = s.sau ∧
    (blankLinks s).tfs = s.tfs ∧ (blankLinks s).fen = s.fen ∧ (blankLinks s).piu = State.reset.piu ∧
    (blankLinks s).rbc = { State.reset.rbc with alrmActive := s.rbc.alrmActive } ∧
    (blankLinks s).vbu = { State.reset.vbu with bufA := some ⟨1, s.cku.now, viewEntries s.fen.slots⟩ } ∧
    (blankLinks s).transit = { s.transit with vbu := [] } ∧ (blankLinks s).free = s.free ∧ (blankLinks s).pending = s.pending ∧
    (blankLinks s).clc = { s.clc with notices := { s.clc.notices with
      displayStale := s.clc.notices.displayStale.begins } } := by
  simp only [blankLinks, startSgu, startVbu, Bool.false_eq_true, if_false, startSign_eq, startView_eq]
  exact ⟨rfl, rfl, rfl, rfl, rfl, rfl, rfl, rfl, rfl, rfl, rfl, rfl, rfl, rfl, rfl⟩

/-- A sign without roles, in a shift that is closed and with no tariff set. -/
theorem blankLinks_sgu (hs : s.sau.shift = .closed) (ht : s.tfs.valid = false) : (blankLinks s).sgu = State.reset.sgu := by
  have label (u : State) (h : u.tfs.valid = false) : scheduledLabel u = [] := by
    simp only [scheduledLabel, activeSet, h]
    rfl
  have image (u : State) (h : u.sau.shift = .closed) (hl : u.sgu.text = []) (ha : u.sgu.latch = false) :
      desiredImage u = ⟨.avail .off, .seats 0, .text [], .alert false⟩ := by
    simp [desiredImage, availContent, textContent, h, hl, ha]
  simp only [blankLinks, startSgu, startVbu, Bool.false_eq_true, if_false, startSign_eq, startView_eq]
  rw [image _ (by exact hs) (by rfl) (by rfl)]
  exact congrArg (fun l => { State.reset.sgu with label := l }) (label _ (by exact ht))

end

theorem storeStands_damaged {damage : StoreDamage} {m : Smr}
    (h : m.closing = false ∨ m.format ≠ .own ∨ m.agrees = false ∨ damage ≠ .intact) :
    storeStands (damageStore damage m) = false := by
  rw [← Bool.not_eq_true, storeStands_iff]
  cases damage with
  | intact =>
    rintro ⟨hc, hf, ha⟩
    rcases h with h | h | h | h
    · exact Bool.false_ne_true (h.symm.trans hc)
    · exact h hf
    · exact Bool.false_ne_true (h.symm.trans ha)
    · exact h rfl
  | vbakFailed => exact fun h => Bool.false_ne_true h.1
  | partWritten => exact fun h => Bool.false_ne_true h.2.2

theorem damageStore_restart (damage : StoreDamage) (m : Smr) : (damageStore damage m).restart = m.restart := by
  cases damage <;> rfl

/-- A blank start leaves the machine as after reset, at the clock it finds. -/
theorem returnSupply_blank {s : State} {damage : StoreDamage} {stopped : Bool} {c : Cku} (hc : c = checkClock stopped s.cku)
    (h : storeStands (damageStore damage s.smr) = false) (hr : s.smr.restart = none) (ht : s.transit = ⟨[], [], [], []⟩) :
    returnSupply damage stopped none s =
      { State.reset with
        cku := c
        clc := { State.reset.clc with supplyDetail := some ⟨none, c.now⟩ }
        tfs := { State.reset.tfs with point := ⟨c.now.date, c.now.minuteOfDay, c.now.date.weekday⟩ }
        vbu := { State.reset.vbu with bufA := some ⟨1, c.now, ⟨none, none, none, none⟩⟩ }
        rbc := { State.reset.rbc with alrmActive := s.rbc.alrmActive }
        smr := { State.reset.smr with lastStart := ⟨.blank, ⟨none, c.now⟩⟩ }
        free := s.free, pending := s.pending } := by
  have started : returnSupply damage stopped none s =
      blankLinks (blankRecords ⟨none, c.now⟩ (enterStart damage stopped s)) := by
    have stands : storeStands (enterStart damage stopped s).smr = false := h
    unfold returnSupply
    dsimp only
    rw [stands, startTimes, if_neg Bool.false_ne_true, runSteps_blank, hc]
    rfl
  have entered : (enterStart damage stopped s).cku = c := hc.symm
  have restart : (enterStart damage stopped s).smr.restart = none := (damageStore_restart damage s.smr).trans hr
  have transit : (enterStart damage stopped s).transit = ⟨[], [], [], []⟩ := ht
  have rbc : (enterStart damage stopped s).rbc = s.rbc := rfl
  have free : (enterStart damage stopped s).free = s.free := rfl
  have pending : (enterStart damage stopped s).pending = s.pending := rfl
  have pins : (enterStart damage stopped s).smr.pins = ⟨true, true⟩ := rfl
  rw [started]
  generalize enterStart damage stopped s = u at *
  obtain ⟨cku, smr, miu, stu, tlc, sau, tfs, fen, clc⟩ := blankRecords_blocks ⟨none, c.now⟩ u
  obtain ⟨transit', rbc', free', pending'⟩ := blankRecords_rest ⟨none, c.now⟩ u
  have sgu := blankLinks_sgu (blankRecords ⟨none, c.now⟩ u) (by rw [sau]; rfl) (by rw [tfs]; rfl)
  obtain ⟨cku'', smr'', miu'', stu'', tlc'', sau'', tfs'', fen'', piu'', rbc'', vbu'', transit'', free'', pending'', clc''⟩ :=
    blankLinks_blocks (blankRecords ⟨none, c.now⟩ u)
  refine State.eq_of_blocks ?clc (miu''.trans miu) (cku''.trans (cku.trans entered)) ?tfs (fen''.trans fen) ?vbu (stu''.trans stu)
    (tlc''.trans tlc) (sau''.trans sau) sgu ?rbc piu'' ?smr ?transit (free''.trans (free'.trans free))
    (pending''.trans (pending'.trans pending))
  case clc => rw [clc'', clc]; rfl
  case tfs => rw [tfs'', tfs, entered]
  case vbu => rw [vbu'', cku, entered, fen]; rfl
  case rbc => rw [rbc'', rbc', rbc]
  case smr =>
    rw [smr'', smr]
    exact congrArg₂ (fun r p => { State.reset.smr with lastStart := ⟨.blank, ⟨none, c.now⟩⟩, restart := r, pins := p }) restart pins
  case transit => rw [transit'', transit', transit]; rfl

/-! ### A start that is cut (R195, R198) -/

/-- The steps of a start between its first event and its last two writes. -/
def middleSteps (restore : Bool) (times : StartTimes) : List (State → State) :=
  [startClc (if restore then .restored else .storeLost) times, startMiu restore, startStu restore, startTlc, startTfs restore,
    startFen restore, refreshFen, startSau restore, startVbu restore, startSgu restore, startPiu restore]

theorem startSteps_eq (restore : Bool) (times : StartTimes) : startSteps restore times =
    beginStart restore times :: (middleSteps restore times ++ [sealStore restore]) ++ [endStart] := rfl

/-- A step that leaves the supply monitor and the clock. -/
def KeepsSmr (f : State → State) : Prop := ∀ u, (f u).smr = u.smr ∧ (f u).cku = u.cku

theorem keepsSmr_middleSteps (restore : Bool) (times : StartTimes) : ∀ f ∈ middleSteps restore times, KeepsSmr f := by
  have clc (r : Reason) : KeepsSmr (startClc r times) := fun u => ⟨rfl, rfl⟩
  have miu : KeepsSmr (startMiu restore) := fun u => ⟨rfl, rfl⟩
  have stu : KeepsSmr (startStu restore) := fun u => by
    unfold startStu
    split
    · rw [reportWaiting_eq]
      exact ⟨rfl, rfl⟩
    · exact ⟨rfl, rfl⟩
  have tfs : KeepsSmr (startTfs restore) := fun u => by cases restore <;> exact ⟨rfl, rfl⟩
  have fen : KeepsSmr (startFen restore) := fun u => by
    unfold startFen
    split
    · obtain ⟨cku, smr, _⟩ := (foldl_releases Slot.all u).blocks
      exact ⟨smr, cku⟩
    · exact ⟨rfl, rfl⟩
  have sau : KeepsSmr (startSau restore) := fun u => by cases restore <;> exact ⟨rfl, rfl⟩
  have vbu : KeepsSmr (startVbu restore) := fun u => by
    rw [startVbu, startView_eq]
    cases restore <;> exact ⟨rfl, rfl⟩
  have sgu : KeepsSmr (startSgu restore) := fun u => by
    rw [startSgu, startSign_eq]
    cases restore <;> exact ⟨rfl, rfl⟩
  have piu : KeepsSmr (startPiu restore) := fun u => by cases restore <;> exact ⟨rfl, rfl⟩
  unfold middleSteps
  simp only [List.forall_mem_cons]
  exact ⟨clc _, miu, stu, fun u => ⟨rfl, rfl⟩, tfs, fen, fun u => ⟨rfl, rfl⟩, sau, vbu, sgu, piu, nofun⟩

theorem runSteps_keeps {p : State → Prop} {l : List (State → State)} (h : ∀ f ∈ l, ∀ u, p u → p (f u)) {s : State} (hs : p s) :
    p (runSteps l s) := by
  induction l generalizing s with
  | nil => exact hs
  | cons f l ih => exact ih (fun g hg => h g (List.mem_cons_of_mem f hg)) (h f List.mem_cons_self s hs)

theorem runSteps_cons (f : State → State) (l : List (State → State)) (s : State) : runSteps (f :: l) s = runSteps l (f s) := rfl

section
variable (restore : Bool) (times : StartTimes) (s : State)

/-- A start that has begun has cleared the mark, and leaves the clock. -/
theorem runSteps_begun {n : Nat} (hn : 0 < n) : (runSteps ((startSteps restore times).take n) s).smr.closing = false ∧
    (runSteps ((startSteps restore times).take n) s).cku = s.cku := by
  obtain ⟨m, rfl⟩ := Nat.exists_eq_succ_of_ne_zero hn.ne'
  have first : (beginStart restore times s).smr.closing = false ∧ (beginStart restore times s).cku = s.cku := by
    cases restore
    · exact ⟨rfl, rfl⟩
    · rw [beginStart_restore]
      exact ⟨rfl, rfl⟩
  rw [startSteps_eq, List.cons_append, List.take_succ_cons, runSteps_cons]
  refine runSteps_keeps (p := fun u => u.smr.closing = false ∧ u.cku = s.cku) (fun f hf u hu => ?_) first
  have member := List.mem_of_mem_take hf
  rw [List.append_assoc, List.mem_append, List.mem_append, List.mem_singleton, List.mem_singleton] at member
  rcases member with hm | rfl | rfl
  · obtain ⟨smr, cku⟩ := keepsSmr_middleSteps restore times f hm u
    rw [smr, cku]
    exact hu
  · exact hu
  · exact hu

/-- A blank start writes format number 0 first and the part's own last (R199). -/
theorem runSteps_format {n : Nat} (hn : 0 < n) : (runSteps ((startSteps false times).take n) s).smr.format =
    if n < (startSteps false times).length then .zero else .own := by
  split
  case isTrue h =>
    obtain ⟨m, rfl⟩ := Nat.exists_eq_succ_of_ne_zero hn.ne'
    have short : m ≤ (middleSteps false times ++ [sealStore false]).length := Nat.lt_succ_iff.1 (Nat.lt_of_succ_lt_succ h)
    rw [startSteps_eq, List.cons_append, List.take_succ_cons, List.take_append_of_le_length short, runSteps_cons]
    refine runSteps_keeps (p := fun u => u.smr.format = .zero) (fun f hf u hu => ?_) (by rfl)
    have member := List.mem_of_mem_take hf
    rw [List.mem_append, List.mem_singleton] at member
    rcases member with hm | rfl
    · rw [(keepsSmr_middleSteps false times f hm u).1]
      exact hu
    · exact hu
  case isFalse h =>
    rw [List.take_of_length_le (Nat.not_lt.1 h), startSteps_eq, runSteps, List.foldl_append]
    rfl

theorem loseSupply_smr (l : SupplyLoss) : (loseSupply l s).smr = { markStore l.markWritten s.cku.now s.smr with pins := l.pins } := by
  obtain ⟨_, cku, _, _, smr, _⟩ := lastSecond_kept s
  rw [loseSupply_eq, smr, cku]
  rfl

end

end Sys2Proof.Machine

/-! ## Supply return: the obligation (R195 to R199) -/

namespace Sys2Proof.Machine

theorem markStore_format (written : Bool) (now : CalTime) (m : Smr) : (markStore written now m).format = m.format := by
  cases written <;> rfl

/-- A restore start at the hires (R48, R63). -/
theorem restored_hires (times : StartTimes) (s : State) :
    (∀ k h, s.hire k = some h → (h.state = .frozen ∨ h.state = .due) → (restored times s).hire k = some h) ∧
    (∀ k h, s.hire k = some h → h.state = .paying →
      (∀ e ∈ s.stu.queue, ¬ (e.slot = k ∧ e.hire = h.number ∧ (e.state = .queued ∨ e.state = .handed))) →
      (restored times s).hire k = some { h with state := .due } ∧
        (restored times s).clc.notices.get (hireKind k) = ⟨true, true, 8, false⟩) ∧
    (∀ k h, s.hire k = some h → (h.state = .suspended ∨ h.state = .running) →
      (restored times s).hire k = some (if h.source = .schedule then
        { h with pending := if (restored times s).tfs.scheduled = h.tariff then none else some (restored times s).tfs.scheduled }
        else h)) ∧
    (∀ k, s.hire k = none → (restored times s).hire k = none) ∧
    (∀ k e h, s.hire k = some h → h.state = .paying → e ∈ s.stu.queue → e.slot = k → e.hire = h.number →
      (e.state = .queued ∨ e.state = .handed) → (restored times s).hire k = some h) := by
  refine ⟨fun k h he hs => ?stands, fun k h he hs hq => ?due, fun k h he hs => ?driving, fun k he => ?empty,
    fun k e h he hs hm hk hn hst => ?paying⟩
  all_goals
    obtain ⟨hire, notice⟩ := restored_slot times s k
    rw [he] at hire notice
  case stands =>
    rw [hire, releasedPart_kept (.inl fun hp => by simp [hp] at hs), Option.map_some, Hire.refreshed_other]
    · exact fun hr => by simp [hr] at hs
    · exact fun hr => by simp [hr] at hs
  case due =>
    have unpaid : ¬ paidBy (renewed s.stu.queue) k h = true := by
      rw [paidBy_renewed_iff]
      rintro ⟨e, hm, hlive⟩
      exact hq e hm hlive
    rw [releasedPart_due hs unpaid] at hire notice
    rw [hire, notice, Option.map_some, Hire.refreshed_other (by exact nofun) (by exact nofun)]
    exact ⟨rfl, rfl⟩
  case driving =>
    rw [hire, releasedPart_kept (.inl fun hp => by simp [hp] at hs), Option.map_some, Hire.refreshed_driving hs.symm]
  case empty => rw [hire]; rfl
  case paying =>
    have paid : paidBy (renewed s.stu.queue) k h = true := paidBy_renewed_iff.2 ⟨e, hm, hk, hn, hst⟩
    rw [hire, releasedPart_kept (.inr paid), Option.map_some, Hire.refreshed_other]
    · exact fun hr => by simp [hr] at hs
    · exact fun hr => by simp [hr] at hs

/-- The shift record of a restore start (R124). -/
theorem interrupted_running {times : StartTimes} {u : Sau} (h : u.shift ≠ .closed) : interrupted times u =
    { u with
      live := { u.live with
        interruptions := min (u.live.interruptions + 1) 65535
        interruptedSecs := min (u.live.interruptedSecs +
          match times.loss with
          | some l => times.ret.seconds - l.seconds
          | none => 0) 4294967295 } } := by
  rw [interrupted, if_neg h]
  obtain ⟨_ | l, ret⟩ := times <;> rfl

/-- Settles O56. -/
theorem supplyReturnStartsTheBlocks : Obligations.SupplyReturnStartsTheBlocks := by
  unfold Obligations.SupplyReturnStartsTheBlocks
  intro s stopped c hd hc
  have clock : c = checkClock stopped s.cku := hc
  refine ⟨fun hclosing hformat hagrees => ?restore, fun damage h hr ht => ?blank, fun damage n written pins => ?cut⟩
  case restore =>
    obtain ⟨t, takes, ht⟩ := supplyReturn_restores stopped hd clock ⟨hclosing, hformat, hagrees⟩
    generalize hu : (s.setCku c).setSmr { s.smr with supply := .starting, pins := ⟨true, true⟩ } = u at ht
    obtain ⟨cku, smr, miu, stu, tlc, sau, tfs⟩ := restored_blocks ⟨s.smr.loss, c.now⟩ u
    obtain ⟨lagCount, lagLimit, overwritten, roles, latch, text, depth, offset, floor⟩ := restored_links ⟨s.smr.loss, c.now⟩ u
    obtain ⟨detail, supply⟩ := restored_supply ⟨s.smr.loss, c.now⟩ u
    obtain ⟨counter, seats, sharing⟩ := restored_fen ⟨s.smr.loss, c.now⟩ u
    obtain ⟨stands, due, driving, empty, paying⟩ := restored_hires ⟨s.smr.loss, c.now⟩ u
    rw [← ht] at *
    clear ht
    subst hu
    have tfs' : t.tfs.scheduled = scheduledAt (activeSet s) t.tfs.point := by rw [tfs]; rfl
    refine ⟨t, takes, cku, ?smr, detail, supply, miu, by rw [tfs]; rfl, by rw [tfs]; rfl, by rw [tfs]; rfl, by rw [tfs]; rfl,
      tfs', by rw [tfs]; rfl, stu, tlc, counter, seats, sharing, stands, due, driving, empty, paying,
      fun hclosed => sau.trans (if_pos hclosed), fun hrun => sau.trans (interrupted_running hrun), lagCount, lagLimit, overwritten,
      roles, latch, text, depth, offset, floor⟩
    case smr =>
      rw [smr]
      exact congrArg₂ (fun a f => { s.smr with
        supply := .up, format := f, closing := false, agrees := a
        lastStart := ⟨.restore, ⟨s.smr.loss, c.now⟩⟩, pins := ⟨true, true⟩ }) hagrees.symm hformat.symm
  case blank =>
    rw [supplyReturn_takes damage stopped none hd, returnSupply_blank clock (storeStands_damaged h) hr ht]
  case cut =>
    have now : (enterStart damage stopped s).cku = c := clock.symm
    refine ⟨_, supplyReturn_takes damage stopped _ hd, ?_⟩
    obtain ⟨restore, hrestore⟩ : ∃ r, r = storeStands (enterStart damage stopped s).smr := ⟨_, rfl⟩
    obtain ⟨u, hu⟩ : ∃ u, u = runSteps ((startSteps restore (startTimes restore (enterStart damage stopped s))).take n)
      (enterStart damage stopped s) := ⟨_, rfl⟩
    have cut : returnSupply damage stopped (some ⟨n, ⟨written, pins⟩⟩) s = loseSupply ⟨written, pins⟩ u := by
      rw [hu, hrestore]
      rfl
    have smr := loseSupply_smr u ⟨written, pins⟩
    have begun (hn : 0 < n) : u.smr.closing = false ∧ u.cku = c := by
      rw [hu, ← now]
      exact runSteps_begun _ _ _ hn
    obtain ⟨supply, _, _, wrote, unwritten⟩ := markStore_kept written u.cku.now u.smr
    have format := markStore_format written u.cku.now u.smr
    rw [cut, smr]
    refine ⟨supply, rfl, fun hw => ⟨(wrote hw).1, (wrote hw).2.1⟩, fun hw hn => ?loss, fun hw hn => ?cleared,
      fun h hn => ?format, fun hn hi hclosing => ?notBegun⟩
    case loss =>
      obtain ⟨closing, cku⟩ := begun hn
      exact (wrote hw).2.2.trans ((if_neg (closing ▸ Bool.false_ne_true)).trans (by rw [cku]))
    case cleared => exact (unwritten hw).1.trans (begun hn).1
    case format =>
      refine format.trans ?_
      have blank : restore = false := hrestore.trans (storeStands_damaged h)
      have times : startTimes false (enterStart damage stopped s) = ⟨none, c.now⟩ := by rw [← now]; rfl
      rw [hu, blank, times]
      exact runSteps_format _ _ hn
    case notBegun =>
      subst hn hi
      have stays : u.smr = { s.smr with supply := .starting, pins := ⟨true, true⟩ } := by rw [hu]; rfl
      have closed : u.smr.closing = true := by rw [stays]; exact hclosing
      have loss : u.smr.loss = s.smr.loss := by rw [stays]
      cases written with
      | true => exact ⟨(wrote rfl).1, (wrote rfl).2.2.trans ((if_pos closed).trans loss)⟩
      | false => exact ⟨(unwritten rfl).1.trans closed, (unwritten rfl).2.2.trans loss⟩

end Sys2Proof.Machine
